-- ==== Sys2Proof/Word.lean ====
section
/-! DEFINITION. The word types: a bus byte and the 17-bit operation word. -/

namespace Sys2Proof

/-- One byte of a bus transfer (20_memory.md R47). -/
abbrev Byte := BitVec 8

/-- The operation word `W[16:0]` (30_encoding.md R58). -/
abbrev Word := BitVec 17

end Sys2Proof
end

