-- ==== Sys2Proof/Config.lean ====
section
/-! DEFINITION. What is fixed for the machine: the variant names, and the OPEN parameters of
00_scope.md R9 as opaque constants, so that nothing proved depends on a value the spec does not give. -/

namespace Sys2Proof

/-- The AY-family variants (00_scope.md R2). -/
inductive AyModel where
  | ay8910
  | ym2149
  deriving DecidableEq, Repr

/-- The SN-family variants (00_scope.md R2); `sn76489gg` is `SN76489_GG`. -/
inductive SnModel where
  | sn76489
  | sn76489gg
  deriving DecidableEq, Repr

/-- `VARIANT`, chosen by `INIT` (00_scope.md R2, R9). -/
inductive Variant where
  | ay (model : AyModel)
  | sn (model : SnModel)
  deriving DecidableEq, Repr

/-- `FAMILY` (00_scope.md R9). -/
inductive Family where
  | ay
  | sn
  deriving DecidableEq, Repr

/-- A tone channel, 0 to 2 (00_scope.md R11). -/
abbrev Chan := Fin 3

/-- The chip profiles the tables are built from (40_amplitude_table.md R74, R77). -/
inductive Profile where
  | ay8910
  | ym2149Tone
  | ym2149Envelope
  deriving DecidableEq, Repr

/-- The table builder's two output modes (40_amplitude_table.md R75, R77). -/
inductive TableMode where
  | normalised
  | absolute
  deriving DecidableEq, Repr

/-- The noise-config of `INIT`: the pair (`SN_TAP_WIDTH`, `SN_FEEDBACK_MASK`) as the host passes it,
not yet validated (70_reset_and_hazards.md R180). -/
structure NoiseConfig where
  width : Nat
  mask : Nat
  deriving DecidableEq, Repr

/-- A real whose square is the part of `LOAD_R[c]` above `1 / (loadFloor c + 1)` (OPEN, 00_scope.md R9;
log 6). -/
opaque Config.loadRoot : Chan → ℝ

/-- The natural `n` of the part `1 / (n + 1)` of `LOAD_R[c]`, which keeps it above 0 (OPEN, 00_scope.md
R9; log 6). -/
opaque Config.loadFloor : Chan → Nat

/-- `ZERO_IS_OFF(profile)` (OPEN, 40_amplitude_table.md R80). -/
opaque Config.zeroIsOff : Profile → Bool

/-- Entry 0 of the table of a profile, a mode and a load, where `ZERO_IS_OFF` does not fix it
(OPEN, any value: 40_amplitude_table.md R76, R80; log 6). -/
opaque Config.tableBase : Profile → TableMode → ℝ → Int

/-- How much entry k+1 of that table lies above entry k (OPEN, any value; a natural number, which is
property P1: 40_amplitude_table.md R79; log 6). -/
opaque Config.tableRise : Profile → TableMode → ℝ → Nat → Nat

/-- `SN_VOL_TABLE[v]` (OPEN, no assumed property: 40_amplitude_table.md R81; log 7). -/
opaque Config.snVolTable : BitVec 4 → Int

/-- `SN_MUTE` (OPEN, no assumed property: 40_amplitude_table.md R81; log 7). -/
opaque Config.snMute : Int

/-- `SN_NOISE_DIV[k]`, 0 to 0xFFFF (OPEN, 42_noise.md R97; log 8). -/
opaque Config.snNoiseDiv : Fin 3 → BitVec 16

/-- `SN_NOISE_WRITE_RESEEDS` (OPEN, 42_noise.md R100; log 8). -/
opaque Config.snNoiseWriteReseeds : Bool

/-- `AMP_WIDTH` (OPEN, 00_scope.md R16): for models of finite amplitudes. Amplitudes are exact
integers here, so nothing reads it (log 9). -/
opaque Config.ampWidth : Nat

end Sys2Proof
end

