-- ==== Sys2Proof/Machine/Params.lean ====
section
/-! DEFINITION. The constants that depend on the variant, the variant codes, the noise-config check
and its defaults, and the LFSR seeds (00_scope.md R9, R13; 30_encoding.md R60;
70_reset_and_hazards.md R180; 42_noise.md R92). -/

namespace Sys2Proof.Machine

/-- `FAMILY` (00_scope.md R9). -/
def familyOf : Variant → Family
  | .ay _ => .ay
  | .sn _ => .sn

/-- `ENV_MAX` (00_scope.md R9, R13). -/
def envMax : AyModel → BitVec 5
  | .ay8910 => 15
  | .ym2149 => 31

/-- `ENV_STEP` (00_scope.md R9). -/
def envStep : AyModel → Nat
  | .ay8910 => 1
  | .ym2149 => 2

/-- `CLOCK_DIV` (00_scope.md R9, 46_host_ops.md R159). -/
def clockDiv : Family → Nat
  | .ay => 8
  | .sn => 16

/-- The variant a `VAR` code names; codes 4 to 15 name none (30_encoding.md R60). -/
def variantOfCode (v : BitVec 4) : Option Variant :=
  match v.toNat with
  | 0 => some (.ay .ay8910)
  | 1 => some (.ay .ym2149)
  | 2 => some (.sn .sn76489)
  | 3 => some (.sn .sn76489gg)
  | _ => none

/-- The noise-config where the host passes none (70_reset_and_hazards.md R180; PRESUMED by the spec
from general knowledge, log 17). -/
def defaultNoiseConfig : NoiseConfig := { width := 16, mask := 0x0009 }

/-- The noise-configs `INIT` takes on the SN family: `1 <= W <= 17` and `M < 2^W`
(70_reset_and_hazards.md R180). -/
def noiseConfigLegal (c : NoiseConfig) : Bool :=
  decide (1 ≤ c.width ∧ c.width ≤ 17 ∧ c.mask < 2 ^ c.width)

/-- The AY LFSR's seed (42_noise.md R92). -/
def aySeed : BitVec 17 := 0x00001

/-- The SN LFSR's seed, `1 << (SN_TAP_WIDTH - 1)` (42_noise.md R92). -/
def snSeed (tapWidth : Nat) : BitVec 17 := 1#17 <<< (tapWidth - 1)

end Sys2Proof.Machine
end

