-- ==== Sys2Proof/Syntax.lean ====
section
/-! DEFINITION. The operations of 30_encoding.md R68: one constructor for each row of
opcode_table.json. The fields of a constructor are the bits its row leaves free, the context bits
(`act`, `lat`, `lch`, `lvol`) among them, and the operands passed beside `W` (R58). -/

namespace Sys2Proof

/-- The operations. The rules cited without a file are 44_register_bus.md's. -/
inductive Instr where
  /-- Valid AY address write, register `r`; R110. -/
  | ayAddr (act : Bool) (lat : BitVec 4) (r : BitVec 4)
  /-- Invalid AY address write, `BYTE = 1xxx xxxx`; R111. -/
  | ayAddrBadBit7 (act : Bool) (lat : BitVec 4) (low : BitVec 7)
  /-- Invalid AY address write, `BYTE = 01xx xxxx`; R111. -/
  | ayAddrBadBit6 (act : Bool) (lat : BitVec 4) (low : BitVec 6)
  /-- Invalid AY address write, `BYTE = 001x xxxx`; R111. -/
  | ayAddrBadBit5 (act : Bool) (lat : BitVec 4) (low : BitVec 5)
  /-- Invalid AY address write, `BYTE = 0001 xxxx`; R111. -/
  | ayAddrBadBit4 (act : Bool) (lat : BitVec 4) (low : BitVec 4)
  /-- AY data write while inactive; R112. -/
  | ayDataInactive (lat : BitVec 4) (byte : Byte)
  /-- AY data write to register 0x0 (tone 0 fine); R114. -/
  | ayDataR0 (d : Byte)
  /-- AY data write to register 0x1 (tone 0 coarse); R115. -/
  | ayDataR1 (d : Byte)
  /-- AY data write to register 0x2 (tone 1 fine); R116. -/
  | ayDataR2 (d : Byte)
  /-- AY data write to register 0x3 (tone 1 coarse); R117. -/
  | ayDataR3 (d : Byte)
  /-- AY data write to register 0x4 (tone 2 fine); R118. -/
  | ayDataR4 (d : Byte)
  /-- AY data write to register 0x5 (tone 2 coarse); R119. -/
  | ayDataR5 (d : Byte)
  /-- AY data write to register 0x6 (noise period); R120. -/
  | ayDataR6 (d : Byte)
  /-- AY data write to register 0x7 (mixer); R121. -/
  | ayDataR7 (d : Byte)
  /-- AY data write to register 0x8 (amplitude 0); R122. -/
  | ayDataR8 (d : Byte)
  /-- AY data write to register 0x9 (amplitude 1); R123. -/
  | ayDataR9 (d : Byte)
  /-- AY data write to register 0xa (amplitude 2); R124. -/
  | ayDataR10 (d : Byte)
  /-- AY data write to register 0xb (envelope fine); R125. -/
  | ayDataR11 (d : Byte)
  /-- AY data write to register 0xc (envelope coarse); R126. -/
  | ayDataR12 (d : Byte)
  /-- AY data write to register 0xd (envelope shape); R127. -/
  | ayDataR13 (d : Byte)
  /-- AY data write to register 0xe (I/O port A); R128. -/
  | ayDataR14 (d : Byte)
  /-- AY data write to register 0xf (I/O port B); R129. -/
  | ayDataR15 (d : Byte)
  /-- Latch byte, tone channel 0; R132. -/
  | snLatchTone0 (lch : BitVec 2) (lvol : Bool) (d : BitVec 4)
  /-- Latch byte, tone channel 1; R133. -/
  | snLatchTone1 (lch : BitVec 2) (lvol : Bool) (d : BitVec 4)
  /-- Latch byte, tone channel 2; R134. -/
  | snLatchTone2 (lch : BitVec 2) (lvol : Bool) (d : BitVec 4)
  /-- Latch byte, noise register; R135. -/
  | snLatchNoise (lch : BitVec 2) (lvol : Bool) (d : BitVec 4)
  /-- Latch byte, volume of channel 0; R136. -/
  | snLatchVol0 (lch : BitVec 2) (lvol : Bool) (d : BitVec 4)
  /-- Latch byte, volume of channel 1; R137. -/
  | snLatchVol1 (lch : BitVec 2) (lvol : Bool) (d : BitVec 4)
  /-- Latch byte, volume of channel 2; R138. -/
  | snLatchVol2 (lch : BitVec 2) (lvol : Bool) (d : BitVec 4)
  /-- Latch byte, volume of channel 3; R139. -/
  | snLatchVol3 (lch : BitVec 2) (lvol : Bool) (d : BitVec 4)
  /-- Data byte after a tone-0 latch; R141. -/
  | snDataTone0 (d : BitVec 7)
  /-- Data byte after a tone-1 latch; R142. -/
  | snDataTone1 (d : BitVec 7)
  /-- Data byte after a tone-2 latch; R143. -/
  | snDataTone2 (d : BitVec 7)
  /-- Data byte after a noise latch; R144. -/
  | snDataNoise (d : BitVec 7)
  /-- Data byte after a volume-0 latch; R145. -/
  | snDataVol0 (d : BitVec 7)
  /-- Data byte after a volume-1 latch; R146. -/
  | snDataVol1 (d : BitVec 7)
  /-- Data byte after a volume-2 latch; R147. -/
  | snDataVol2 (d : BitVec 7)
  /-- Data byte after a volume-3 latch; R148. -/
  | snDataVol3 (d : BitVec 7)
  /-- Stereo mask write; R149. -/
  | ggStereo (m : Byte)
  /-- One internal cycle; 46_host_ops.md R157. -/
  | tick
  /-- Sample query; 45_mixer.md R152, R154. -/
  | getSamples
  /-- `initialize(variant, optional noise-config)`; 70_reset_and_hazards.md R179. -/
  | init (v : BitVec 4) (noise : Option NoiseConfig)
  /-- Clock divisor query; 46_host_ops.md R159. -/
  | getClockDivisor
  /-- Sample rate query; 46_host_ops.md R160. -/
  | getSampleRate (clockHz : Nat)
  deriving DecidableEq, Repr

/-- The operands passed beside `W` (30_encoding.md R58): the noise-config of `INIT`, the `clockHz` of
`GET_SAMPLE_RATE`. An operation without such an operand ignores them. -/
structure Beside where
  noise : Option NoiseConfig := none
  clockHz : Nat := 0
  deriving DecidableEq, Repr

/-- One host call as it waits to be taken: its word and the operands beside it. -/
structure HostOp where
  word : Word
  beside : Beside := (Beside.mk none 0)
  deriving DecidableEq, Repr

end Sys2Proof
end

