-- ==== Sys2Proof/WellFormed.lean ====
section
/-! DEFINITION. Which operations keep the host's side of the contract by themselves. Every field of
`Instr` has the width its row gives it, so two checks are left, both about `INIT`: that its code names a
variant (30_encoding.md R60) and that an SN variant's noise-config is legal
(70_reset_and_hazards.md R180). An operation that fails one still has an encoding and is refused by
its rule. -/

namespace Sys2Proof

/-- `VAR` names a variant (30_encoding.md R60). -/
def Instr.variantKnown : Instr → Bool
  | .init v _ => (Machine.variantOfCode v).isSome
  | _ => true

/-- The noise-config is absent, ignored (AY family) or legal (70_reset_and_hazards.md R179 (b), R180). -/
def Instr.noiseConfigOk : Instr → Bool
  | .init v (some c) =>
    match Machine.variantOfCode v with
    | some (.sn _) => Machine.noiseConfigLegal c
    | _ => true
  | _ => true

/-- Both checks. -/
def Instr.wellFormed (i : Instr) : Bool := i.variantKnown && i.noiseConfigOk

end Sys2Proof
end

