-- ==== Sys2Proof/Decode.lean ====
section
/-! DEFINITION. The decoder, total on every operation word and rejecting reserved words by name
(30_encoding.md R68, R70), the encoder written from the same patterns, and the opcode table's rows. -/

namespace Sys2Proof

/-- The field `w[lo+len-1 : lo]` (00_scope.md R14). -/
def field (w : Word) (lo len : Nat) : BitVec len := w.extractLsb' lo len

/-- Bit `i` of a word (00_scope.md R14). -/
def flag (w : Word) (i : Nat) : Bool := w.getLsbD i

/-- Why a word names no operation (30_encoding.md R70). -/
inductive Reserved where
  /-- KIND 001 with `W[13:11] != 000`; R70 (a). -/
  | snBus
  /-- KIND 010 with `W[13:8] != 0`; R70 (b). -/
  | stereo
  /-- KIND 011, 100, 110 or 111 with `W[13:0] != 0`; R70 (c). -/
  | host
  /-- KIND 101 with `W[13:4] != 0`; R70 (d). -/
  | init
  deriving DecidableEq, Repr

/-- The data write to the register `lat` names (30_encoding.md R68, rows AY_DATA_R0 to AY_DATA_R15). -/
def ayDataOf (lat : BitVec 4) (d : Byte) : Instr :=
  match lat.toNat with
  | 0 => .ayDataR0 d
  | 1 => .ayDataR1 d
  | 2 => .ayDataR2 d
  | 3 => .ayDataR3 d
  | 4 => .ayDataR4 d
  | 5 => .ayDataR5 d
  | 6 => .ayDataR6 d
  | 7 => .ayDataR7 d
  | 8 => .ayDataR8 d
  | 9 => .ayDataR9 d
  | 10 => .ayDataR10 d
  | 11 => .ayDataR11 d
  | 12 => .ayDataR12 d
  | 13 => .ayDataR13 d
  | 14 => .ayDataR14 d
  | _ => .ayDataR15 d

/-- AY_BUS words: `W[13]` PORT, `W[12]` ACT, `W[11:8]` LAT, `W[7:0]` BYTE (30_encoding.md R58, R62).
Every one names an operation. -/
def decodeAyBus (w : Word) : Instr :=
  let act := flag w 12
  let lat := field w 8 4
  if flag w 13 then
    if flag w 7 then .ayAddrBadBit7 act lat (field w 0 7)
    else if flag w 6 then .ayAddrBadBit6 act lat (field w 0 6)
    else if flag w 5 then .ayAddrBadBit5 act lat (field w 0 5)
    else if flag w 4 then .ayAddrBadBit4 act lat (field w 0 4)
    else .ayAddr act lat (field w 0 4)
  else if act then ayDataOf lat (field w 0 8)
  else .ayDataInactive lat (field w 0 8)

/-- The latch byte with `BYTE[6:4] = CH, TY` (30_encoding.md R63). -/
def snLatchOf (chty : BitVec 3) (lch : BitVec 2) (lvol : Bool) (d : BitVec 4) : Instr :=
  match chty.toNat with
  | 0 => .snLatchTone0 lch lvol d
  | 1 => .snLatchVol0 lch lvol d
  | 2 => .snLatchTone1 lch lvol d
  | 3 => .snLatchVol1 lch lvol d
  | 4 => .snLatchTone2 lch lvol d
  | 5 => .snLatchVol2 lch lvol d
  | 6 => .snLatchNoise lch lvol d
  | _ => .snLatchVol3 lch lvol d

/-- The data byte in the context `W[10:8] = LCH, LVOL` (30_encoding.md R64). -/
def snDataOf (ctx : BitVec 3) (d : BitVec 7) : Instr :=
  match ctx.toNat with
  | 0 => .snDataTone0 d
  | 1 => .snDataVol0 d
  | 2 => .snDataTone1 d
  | 3 => .snDataVol1 d
  | 4 => .snDataTone2 d
  | 5 => .snDataVol2 d
  | 6 => .snDataNoise d
  | _ => .snDataVol3 d

/-- SN_BUS words: `W[13:11]` zero, `W[10:9]` LCH, `W[8]` LVOL, `W[7:0]` BYTE (30_encoding.md R58,
R63, R64). -/
def decodeSnBus (w : Word) : Except Reserved Instr :=
  if field w 11 3 = 0 then
    if flag w 7 then .ok (snLatchOf (field w 4 3) (field w 9 2) (flag w 8) (field w 0 4))
    else .ok (snDataOf (field w 8 3) (field w 0 7))
  else .error .snBus

/-- A host word whose `W[13:0]` must be zero (30_encoding.md R58, R70 (c)). -/
def decodeHost (w : Word) (i : Instr) : Except Reserved Instr :=
  if field w 0 14 = 0 then .ok i else .error .host

/-- The decoder: `W[16:14]` KIND selects the format (30_encoding.md R58). -/
def decode (w : Word) (b : Beside) : Except Reserved Instr :=
  match (field w 14 3).toNat with
  | 0 => .ok (decodeAyBus w)
  | 1 => decodeSnBus w
  | 2 => if field w 8 6 = 0 then .ok (.ggStereo (field w 0 8)) else .error .stereo
  | 3 => decodeHost w .tick
  | 4 => decodeHost w .getSamples
  | 5 => if field w 4 10 = 0 then .ok (.init (field w 0 4) b.noise) else .error .init
  | 6 => decodeHost w .getClockDivisor
  | _ => decodeHost w (.getSampleRate b.clockHz)

/-- `W` of an AY_BUS operation as a number (30_encoding.md R59). -/
def ayBusNat (port act : Bool) (lat : BitVec 4) (byte : Nat) : Nat :=
  port.toNat * 2 ^ 13 + act.toNat * 2 ^ 12 + lat.toNat * 2 ^ 8 + byte

/-- `W` of an SN_BUS operation as a number (30_encoding.md R59). -/
def snBusNat (lch : BitVec 2) (lvol : Bool) (byte : Nat) : Nat :=
  1 * 2 ^ 14 + lch.toNat * 2 ^ 9 + lvol.toNat * 2 ^ 8 + byte

/-- The encoding of an operation as a number, row by row from 30_encoding.md R68. -/
def encodeNat : Instr → Nat
  | .ayAddr act lat r => ayBusNat true act lat r.toNat
  | .ayAddrBadBit7 act lat low => ayBusNat true act lat (128 + low.toNat)
  | .ayAddrBadBit6 act lat low => ayBusNat true act lat (64 + low.toNat)
  | .ayAddrBadBit5 act lat low => ayBusNat true act lat (32 + low.toNat)
  | .ayAddrBadBit4 act lat low => ayBusNat true act lat (16 + low.toNat)
  | .ayDataInactive lat byte => ayBusNat false false lat byte.toNat
  | .ayDataR0 d => ayBusNat false true 0 d.toNat
  | .ayDataR1 d => ayBusNat false true 1 d.toNat
  | .ayDataR2 d => ayBusNat false true 2 d.toNat
  | .ayDataR3 d => ayBusNat false true 3 d.toNat
  | .ayDataR4 d => ayBusNat false true 4 d.toNat
  | .ayDataR5 d => ayBusNat false true 5 d.toNat
  | .ayDataR6 d => ayBusNat false true 6 d.toNat
  | .ayDataR7 d => ayBusNat false true 7 d.toNat
  | .ayDataR8 d => ayBusNat false true 8 d.toNat
  | .ayDataR9 d => ayBusNat false true 9 d.toNat
  | .ayDataR10 d => ayBusNat false true 10 d.toNat
  | .ayDataR11 d => ayBusNat false true 11 d.toNat
  | .ayDataR12 d => ayBusNat false true 12 d.toNat
  | .ayDataR13 d => ayBusNat false true 13 d.toNat
  | .ayDataR14 d => ayBusNat false true 14 d.toNat
  | .ayDataR15 d => ayBusNat false true 15 d.toNat
  | .snLatchTone0 lch lvol d => snBusNat lch lvol (128 + d.toNat)
  | .snLatchTone1 lch lvol d => snBusNat lch lvol (160 + d.toNat)
  | .snLatchTone2 lch lvol d => snBusNat lch lvol (192 + d.toNat)
  | .snLatchNoise lch lvol d => snBusNat lch lvol (224 + d.toNat)
  | .snLatchVol0 lch lvol d => snBusNat lch lvol (144 + d.toNat)
  | .snLatchVol1 lch lvol d => snBusNat lch lvol (176 + d.toNat)
  | .snLatchVol2 lch lvol d => snBusNat lch lvol (208 + d.toNat)
  | .snLatchVol3 lch lvol d => snBusNat lch lvol (240 + d.toNat)
  | .snDataTone0 d => snBusNat 0 false d.toNat
  | .snDataTone1 d => snBusNat 1 false d.toNat
  | .snDataTone2 d => snBusNat 2 false d.toNat
  | .snDataNoise d => snBusNat 3 false d.toNat
  | .snDataVol0 d => snBusNat 0 true d.toNat
  | .snDataVol1 d => snBusNat 1 true d.toNat
  | .snDataVol2 d => snBusNat 2 true d.toNat
  | .snDataVol3 d => snBusNat 3 true d.toNat
  | .ggStereo m => 2 * 2 ^ 14 + m.toNat
  | .tick => 3 * 2 ^ 14
  | .getSamples => 4 * 2 ^ 14
  | .init v _ => 5 * 2 ^ 14 + v.toNat
  | .getClockDivisor => 6 * 2 ^ 14
  | .getSampleRate _ => 7 * 2 ^ 14

/-- The encoder: the word of an operation. -/
def encode (i : Instr) : Word := BitVec.ofNat 17 (encodeNat i)

/-- The operands beside the word of an operation (30_encoding.md R58). -/
def besideOf : Instr → Beside
  | .init _ noise => ⟨noise, 0⟩
  | .getSampleRate clockHz => ⟨none, clockHz⟩
  | _ => ⟨none, 0⟩

/-- A row of opcode_table.json: its mnemonic and its fixed fields, each as (lowest bit, number of bits,
value). -/
structure OpcodeRow where
  mnemonic : String
  fixed : List (Nat × Nat × Nat)
  deriving DecidableEq, Repr

/-- The AY_BUS rows of opcode_table.json, in its order. -/
def ayBusRows : List OpcodeRow := [
    ⟨"AY_ADDR", [(4, 4, 0), (13, 4, 1)]⟩,
    ⟨"AY_ADDR_BAD", [(7, 1, 1), (13, 4, 1)]⟩,
    ⟨"AY_ADDR_BAD", [(6, 2, 1), (13, 4, 1)]⟩,
    ⟨"AY_ADDR_BAD", [(5, 3, 1), (13, 4, 1)]⟩,
    ⟨"AY_ADDR_BAD", [(4, 4, 1), (13, 4, 1)]⟩,
    ⟨"AY_DATA_INACTIVE", [(12, 5, 0)]⟩,
    ⟨"AY_DATA_R0", [(8, 9, 16)]⟩,
    ⟨"AY_DATA_R1", [(8, 9, 17)]⟩,
    ⟨"AY_DATA_R2", [(8, 9, 18)]⟩,
    ⟨"AY_DATA_R3", [(8, 9, 19)]⟩,
    ⟨"AY_DATA_R4", [(8, 9, 20)]⟩,
    ⟨"AY_DATA_R5", [(8, 9, 21)]⟩,
    ⟨"AY_DATA_R6", [(8, 9, 22)]⟩,
    ⟨"AY_DATA_R7", [(8, 9, 23)]⟩,
    ⟨"AY_DATA_R8", [(8, 9, 24)]⟩,
    ⟨"AY_DATA_R9", [(8, 9, 25)]⟩,
    ⟨"AY_DATA_R10", [(8, 9, 26)]⟩,
    ⟨"AY_DATA_R11", [(8, 9, 27)]⟩,
    ⟨"AY_DATA_R12", [(8, 9, 28)]⟩,
    ⟨"AY_DATA_R13", [(8, 9, 29)]⟩,
    ⟨"AY_DATA_R14", [(8, 9, 30)]⟩,
    ⟨"AY_DATA_R15", [(8, 9, 31)]⟩]

/-- The SN_BUS rows of opcode_table.json, in its order. -/
def snBusRows : List OpcodeRow := [
    ⟨"SN_LATCH_TONE0", [(4, 4, 8), (11, 6, 8)]⟩,
    ⟨"SN_LATCH_TONE1", [(4, 4, 10), (11, 6, 8)]⟩,
    ⟨"SN_LATCH_TONE2", [(4, 4, 12), (11, 6, 8)]⟩,
    ⟨"SN_LATCH_NOISE", [(4, 4, 14), (11, 6, 8)]⟩,
    ⟨"SN_LATCH_VOL0", [(4, 4, 9), (11, 6, 8)]⟩,
    ⟨"SN_LATCH_VOL1", [(4, 4, 11), (11, 6, 8)]⟩,
    ⟨"SN_LATCH_VOL2", [(4, 4, 13), (11, 6, 8)]⟩,
    ⟨"SN_LATCH_VOL3", [(4, 4, 15), (11, 6, 8)]⟩,
    ⟨"SN_DATA_TONE0", [(7, 10, 128)]⟩,
    ⟨"SN_DATA_TONE1", [(7, 10, 132)]⟩,
    ⟨"SN_DATA_TONE2", [(7, 10, 136)]⟩,
    ⟨"SN_DATA_NOISE", [(7, 10, 140)]⟩,
    ⟨"SN_DATA_VOL0", [(7, 10, 130)]⟩,
    ⟨"SN_DATA_VOL1", [(7, 10, 134)]⟩,
    ⟨"SN_DATA_VOL2", [(7, 10, 138)]⟩,
    ⟨"SN_DATA_VOL3", [(7, 10, 142)]⟩]

/-- The STEREO row of opcode_table.json. -/
def stereoRows : List OpcodeRow := [
    ⟨"GG_STEREO", [(8, 9, 128)]⟩]

/-- The HOST rows of opcode_table.json, in its order. -/
def hostRows : List OpcodeRow := [
    ⟨"TICK", [(0, 17, 49152)]⟩,
    ⟨"GET_SAMPLES", [(0, 17, 65536)]⟩,
    ⟨"INIT", [(4, 13, 5120)]⟩,
    ⟨"GET_CLOCK_DIVISOR", [(0, 17, 98304)]⟩,
    ⟨"GET_SAMPLE_RATE", [(0, 17, 114688)]⟩]

/-- The 44 rows of opcode_table.json, in its order. -/
def opcodeRows : List OpcodeRow := ayBusRows ++ snBusRows ++ stereoRows ++ hostRows

/-- A word matches a row when each of the row's fixed fields has its value in the word. -/
def OpcodeRow.hits (r : OpcodeRow) (w : Word) : Bool :=
  r.fixed.all fun f => w.toNat / 2 ^ f.1 % 2 ^ f.2.1 == f.2.2

/-- The index in `opcodeRows` of the row an operation stands for. -/
def Instr.rowIndex : Instr → Nat
  | .ayAddr _ _ _ => 0
  | .ayAddrBadBit7 _ _ _ => 1
  | .ayAddrBadBit6 _ _ _ => 2
  | .ayAddrBadBit5 _ _ _ => 3
  | .ayAddrBadBit4 _ _ _ => 4
  | .ayDataInactive _ _ => 5
  | .ayDataR0 _ => 6
  | .ayDataR1 _ => 7
  | .ayDataR2 _ => 8
  | .ayDataR3 _ => 9
  | .ayDataR4 _ => 10
  | .ayDataR5 _ => 11
  | .ayDataR6 _ => 12
  | .ayDataR7 _ => 13
  | .ayDataR8 _ => 14
  | .ayDataR9 _ => 15
  | .ayDataR10 _ => 16
  | .ayDataR11 _ => 17
  | .ayDataR12 _ => 18
  | .ayDataR13 _ => 19
  | .ayDataR14 _ => 20
  | .ayDataR15 _ => 21
  | .snLatchTone0 _ _ _ => 22
  | .snLatchTone1 _ _ _ => 23
  | .snLatchTone2 _ _ _ => 24
  | .snLatchNoise _ _ _ => 25
  | .snLatchVol0 _ _ _ => 26
  | .snLatchVol1 _ _ _ => 27
  | .snLatchVol2 _ _ _ => 28
  | .snLatchVol3 _ _ _ => 29
  | .snDataTone0 _ => 30
  | .snDataTone1 _ => 31
  | .snDataTone2 _ => 32
  | .snDataNoise _ => 33
  | .snDataVol0 _ => 34
  | .snDataVol1 _ => 35
  | .snDataVol2 _ => 36
  | .snDataVol3 _ => 37
  | .ggStereo _ => 38
  | .tick => 39
  | .getSamples => 40
  | .init _ _ => 41
  | .getClockDivisor => 42
  | .getSampleRate _ => 43

/-- The instruction the decoder reads from the table's word `w`; the operands beside it are zeros:
no noise-config, `clockHz = 0`. A word is 17 bits: a number of 18 bits or more is none. -/
def decodeTableWord (_nbits w : Nat) : Option Instr :=
  if w < 2 ^ 17 then
    match decode (BitVec.ofNat 17 w) ⟨none, 0⟩ with
    | .ok i => some i
    | .error _ => none
  else none

end Sys2Proof
end

