-- ==== Sys2Proof/Machine/Chip.lean ====
section
/-! DEFINITION. The two families' banks of architectural state as plain data, with their reset values
(10_state.md R20, R44). -/

namespace Sys2Proof.Machine

/-- The AY-family state (10_state.md R24 to R33). -/
structure AyBank where
  /-- The register file, 16 registers of 8 bits; R24. -/
  regs : Vector Byte 16
  /-- Data writes are accepted; R28. -/
  active : Bool
  /-- The register named by the last valid address; R29. -/
  addr : BitVec 4
  /-- Tone up-counters; R30. -/
  toneCnt : Vector (BitVec 12) 3
  /-- Tone square-wave outputs; R30. -/
  toneOut : Vector Bool 3
  /-- Noise up-counter; R31. -/
  noiseCnt : BitVec 5
  /-- The noise unit's internal flip; R31. -/
  noiseFlip : Bool
  /-- The 17-bit shift register; R31. -/
  lfsr : BitVec 17
  /-- Noise output; R31. -/
  noiseOut : Bool
  /-- Envelope up-counter; R32. -/
  envCnt : BitVec 16
  /-- Envelope level, 0 to ENV_MAX; R32. -/
  envLevel : BitVec 5
  /-- Current direction, true is rising; R32. -/
  envAttack : Bool
  /-- The level is frozen; R33. -/
  envHolding : Bool
  /-- Latched control bit CONT; R32. -/
  envCont : Bool
  /-- Latched control bit ATT; R32. -/
  envAtt : Bool
  /-- Latched control bit ALT; R32. -/
  envAlt : Bool
  /-- Latched control bit HOLD; R32. -/
  envHold : Bool
  deriving DecidableEq, Repr

/-- The SN-family state (10_state.md R34 to R39). -/
structure SnBank where
  /-- Tone periods, 10 bits; R34. -/
  toneReg : Vector (BitVec 10) 3
  /-- The noise-mode register, 3 bits; R34, R35. -/
  noiseReg : BitVec 3
  /-- Volume registers, 4 bits; R34. -/
  vol : Vector (BitVec 4) 4
  /-- The channel the last latch byte named; R36. -/
  latchCh : BitVec 2
  /-- The last latch byte selected a volume; R36. -/
  latchVol : Bool
  /-- The stereo mask; R37. -/
  stereo : Byte
  /-- Tone down-counters; R38. -/
  toneCnt : Vector (BitVec 10) 3
  /-- Tone outputs; R38. -/
  toneOut : Vector Bool 3
  /-- Noise down-counter; R39. -/
  noiseCnt : BitVec 16
  /-- The shift register, `SN_TAP_WIDTH` bits wide: the bits above stay 0; R39. -/
  lfsr : BitVec 17
  /-- Noise output; R39. -/
  noiseOut : Bool
  deriving DecidableEq, Repr

/-- A diagnostic event (60_exceptions.md R165). -/
inductive Diag where
  | badAddress (byte : Byte)
  deriving DecidableEq, Repr

/-- What an operation returns to the host (00_scope.md R17). -/
inductive Output where
  /-- `GET_SAMPLES` on the AY family; 45_mixer.md R152. -/
  | mono (s0 s1 s2 : Int)
  /-- `GET_SAMPLES` on the SN family; 45_mixer.md R154. -/
  | stereo (left right : Int)
  /-- `GET_CLOCK_DIVISOR`; 46_host_ops.md R159. -/
  | divisor (n : Nat)
  /-- `GET_SAMPLE_RATE`, an exact rational; 46_host_ops.md R160. -/
  | rate (hz : Rat)
  deriving DecidableEq, Repr

/-- The AY bank's reset values (10_state.md R44). -/
def ayReset : AyBank where
  regs := #v[0, 0, 0, 0, 0, 0, 0, 0, 0, 0, 0, 0, 0, 0, 0, 0]
  active := false
  addr := 0
  toneCnt := #v[0, 0, 0]
  toneOut := #v[false, false, false]
  noiseCnt := 0
  noiseFlip := false
  lfsr := aySeed
  noiseOut := false
  envCnt := 0
  envLevel := 0
  envAttack := false
  envHolding := false
  envCont := false
  envAtt := false
  envAlt := false
  envHold := false

/-- The SN bank's reset values for an LFSR of the given width (10_state.md R44). -/
def snReset (tapWidth : Nat) : SnBank where
  toneReg := #v[0, 0, 0]
  noiseReg := 0
  vol := #v[0, 0, 0, 0]
  latchCh := 0
  latchVol := false
  stereo := 0xFF
  toneCnt := #v[0, 0, 0]
  toneOut := #v[false, false, false]
  noiseCnt := 0
  lfsr := snSeed tapWidth
  noiseOut := false

end Sys2Proof.Machine
end

