-- ==== Sys2Proof/Machine/Operands.lean ====
section
/-! DEFINITION. Operand assembly: every operand the operations and the unit steps read from the
register files and from a bus byte (30_encoding.md R63 to R66). All are unsigned. -/

namespace Sys2Proof.Machine

/-- The AY register of channel `c`'s period low byte, `regs[2c]` (30_encoding.md R66 (a)). -/
def fineIndex (c : Chan) : Fin 16 := ⟨2 * c.val, by omega⟩

/-- The AY register of channel `c`'s period high nibble, `regs[2c+1]` (30_encoding.md R66 (a)). -/
def coarseIndex (c : Chan) : Fin 16 := ⟨2 * c.val + 1, by omega⟩

/-- The AY amplitude register of channel `c`, `regs[8+c]` (30_encoding.md R66 (d)). -/
def amplitudeIndex (c : Chan) : Fin 16 := ⟨8 + c.val, by omega⟩

/-- `TP_c`, 12 bits (41_tone.md R84). -/
def tonePeriod (a : AyBank) (c : Chan) : BitVec 12 :=
  a.regs[fineIndex c].setWidth 12 ||| ((a.regs[coarseIndex c].extractLsb' 0 4).setWidth 12 <<< 8)

/-- `NP`, 5 bits (42_noise.md R93). -/
def noisePeriod (a : AyBank) : BitVec 5 := a.regs[6].extractLsb' 0 5

/-- `EP`, 16 bits (43_envelope.md R103). -/
def envPeriod (a : AyBank) : BitVec 16 :=
  a.regs[11].setWidth 16 ||| (a.regs[12].setWidth 16 <<< 8)

/-- `V_c`, 4 bits (30_encoding.md R66 (d)). -/
def volumeField (a : AyBank) (c : Chan) : BitVec 4 := a.regs[amplitudeIndex c].extractLsb' 0 4

/-- `M_c`, the channel's envelope enable (30_encoding.md R66 (d)). -/
def envelopeEnable (a : AyBank) (c : Chan) : Bool := a.regs[amplitudeIndex c].getLsbD 4

/-- `T_c` (30_encoding.md R66 (f)). -/
def toneTerm (a : AyBank) (c : Chan) : Bool := a.regs[7].getLsbD c.val

/-- `N_c` (30_encoding.md R66 (f)). -/
def noiseTerm (a : AyBank) (c : Chan) : Bool := a.regs[7].getLsbD (3 + c.val)

/-- `CONT` of a control byte (30_encoding.md R66 (e)). -/
def contBit (d : Byte) : Bool := d.getLsbD 3

/-- `ATT` of a control byte (30_encoding.md R66 (e)). -/
def attBit (d : Byte) : Bool := d.getLsbD 2

/-- `ALT` of a control byte (30_encoding.md R66 (e)). -/
def altBit (d : Byte) : Bool := d.getLsbD 1

/-- `HOLD` of a control byte (30_encoding.md R66 (e)). -/
def holdBit (d : Byte) : Bool := d.getLsbD 0

/-- `NF = noiseReg[1:0]` (30_encoding.md R66 (h)). -/
def noiseRateField (r : BitVec 3) : BitVec 2 := r.extractLsb' 0 2

/-- `FB = noiseReg[2]`, true for white noise (30_encoding.md R66 (h)). -/
def whiteNoise (r : BitVec 3) : Bool := r.getLsbD 2

/-- The tone period with its low nibble replaced by a latch byte's `D4` (44_register_bus.md R131). -/
def withLowNibble (p : BitVec 10) (d : BitVec 4) : BitVec 10 := (p &&& 0x3F0) ||| d.setWidth 10

/-- The tone period with bits [9:4] replaced by a data byte's `BYTE[5:0]` (44_register_bus.md R140). -/
def withHighBits (p : BitVec 10) (d : BitVec 7) : BitVec 10 :=
  (p &&& 0x00F) ||| ((d.extractLsb' 0 6).setWidth 10 <<< 4)

/-- The 3 bits a latch byte's `D4` gives the noise register (44_register_bus.md R131). -/
def latchNoiseBits (d : BitVec 4) : BitVec 3 := d.extractLsb' 0 3

/-- The 3 bits a data byte gives the noise register (44_register_bus.md R140). -/
def dataNoiseBits (d : BitVec 7) : BitVec 3 := d.extractLsb' 0 3

/-- The 4 bits a data byte gives a volume register (44_register_bus.md R140). -/
def dataVolumeBits (d : BitVec 7) : BitVec 4 := d.extractLsb' 0 4

/-- The stereo mask enables channel `c` on the left: bit `4+c` (30_encoding.md R65). -/
def leftEnabled (mask : Byte) (c : Fin 4) : Bool := mask.getLsbD (4 + c.val)

/-- The stereo mask enables channel `c` on the right: bit `c` (30_encoding.md R65). -/
def rightEnabled (mask : Byte) (c : Fin 4) : Bool := mask.getLsbD c.val

end Sys2Proof.Machine
end

