-- ==== Sys2Proof/Machine/Envelope.lean ====
section
/-! DEFINITION. The envelope state machine (43_envelope.md). -/

namespace Sys2Proof.Machine

/-- The ramp's starting value for an attack bit (43_envelope.md R104, R107). -/
def rampStart (m : AyModel) (att : Bool) : BitVec 5 := if att then 0 else envMax m

/-- `ENV_REARM`, from the byte in register 0xD; `envCnt` is unchanged (43_envelope.md R104). -/
def envRearm (m : AyModel) (a : AyBank) : AyBank :=
  { a with
    envCont := contBit a.regs[13]
    envAtt := attBit a.regs[13]
    envAlt := altBit a.regs[13]
    envHold := holdBit a.regs[13]
    envHolding := false
    envAttack := attBit a.regs[13]
    envLevel := rampStart m (attBit a.regs[13]) }

/-- `ENV_TERMINAL` (43_envelope.md R107). -/
def envTerminal (m : AyModel) (a : AyBank) : AyBank :=
  if a.envCont = false then
    { a with envLevel := 0, envHolding := true }
  else if a.envHold then
    { a with
      envLevel := if a.envAlt then a.envLevel ^^^ envMax m else a.envLevel
      envHolding := true }
  else if a.envAlt then
    { a with envAttack := !a.envAttack }
  else
    { a with envLevel := rampStart m a.envAtt }

/-- `ENV_LEVEL_STEP` (43_envelope.md R106). -/
def envLevelStep (m : AyModel) (a : AyBank) : AyBank :=
  if a.envAttack then
    if a.envLevel = envMax m then envTerminal m a else { a with envLevel := a.envLevel + 1 }
  else
    if a.envLevel = 0 then envTerminal m a else { a with envLevel := a.envLevel - 1 }

/-- `ENV_TICK` (43_envelope.md R105). -/
def envTick (m : AyModel) (a : AyBank) : AyBank :=
  let n := a.envCnt.toNat + envStep m
  if (envPeriod a).toNat ≤ n then
    let wrapped := { a with envCnt := 0 }
    if wrapped.envHolding = false then envLevelStep m wrapped else wrapped
  else
    { a with envCnt := BitVec.ofNat 16 n }

end Sys2Proof.Machine
end

