-- ==== Sys2Proof/Machine/Flags.lean ====
section
/-! DEFINITION. The one-bit values the core computes (10_state.md R40; there are no condition codes):
the feedback bits and outputs of the shift registers, and the mixer's gate. -/

namespace Sys2Proof.Machine

/-- The XOR of the `k` low bits of `v`. -/
def parityBelow {n : Nat} (v : BitVec n) : Nat → Bool
  | 0 => false
  | k + 1 => v.getLsbD k ^^ parityBelow v k

/-- `parity(v)`, the XOR of all bits of `v` (00_scope.md R15). -/
def parity {n : Nat} (v : BitVec n) : Bool := parityBelow v n

/-- The AY feedback bit, `bit0 XOR bit3` (42_noise.md R95). -/
def ayFeedback (lfsr : BitVec 17) : Bool := lfsr.getLsbD 0 ^^ lfsr.getLsbD 3

/-- The AY noise output of a shift, `!bit0` before the shift (42_noise.md R95). -/
def ayNoiseOutput (lfsr : BitVec 17) : Bool := !lfsr.getLsbD 0

/-- The SN feedback bit: in white mode the parity of the masked bits, in periodic mode bit 0
(42_noise.md R99). -/
def snFeedback (white : Bool) (mask lfsr : BitVec 17) : Bool :=
  if white then parity (lfsr &&& mask) else lfsr.getLsbD 0

/-- The SN noise output of a shift, `bit0` before the shift (42_noise.md R99). -/
def snNoiseOutput (lfsr : BitVec 17) : Bool := lfsr.getLsbD 0

/-- `gate_c` (45_mixer.md R150). -/
def gate (a : AyBank) (c : Chan) : Bool :=
  (toneTerm a c || a.toneOut[c]) && (noiseTerm a c || a.noiseOut)

end Sys2Proof.Machine
end

