-- ==== Sys2Proof/Machine/Noise.lean ====
section
/-! DEFINITION. The noise generators' steps (42_noise.md). -/

namespace Sys2Proof.Machine

/-- The register after `AY_LFSR_SHIFT` (42_noise.md R95). -/
def ayShifted (lfsr : BitVec 17) : BitVec 17 :=
  (lfsr >>> 1) ||| ((BitVec.ofBool (ayFeedback lfsr)).setWidth 17 <<< 16)

/-- `AY_LFSR_SHIFT` (42_noise.md R95). -/
def ayLfsrShift (a : AyBank) : AyBank :=
  { a with noiseOut := ayNoiseOutput a.lfsr, lfsr := ayShifted a.lfsr }

/-- `AY_NOISE_TICK` (42_noise.md R94). -/
def ayNoiseTick (a : AyBank) : AyBank :=
  let n := a.noiseCnt.toNat + 1
  if (noisePeriod a).toNat ≤ n then
    let flipped := { a with noiseCnt := 0, noiseFlip := !a.noiseFlip }
    if flipped.noiseFlip = false then ayLfsrShift flipped else flipped
  else
    { a with noiseCnt := BitVec.ofNat 5 n }

/-- `reload`, read at the moment of reload (42_noise.md R97). -/
def snNoiseReload (div : Fin 3 → BitVec 16) (b : SnBank) : BitVec 16 :=
  match (noiseRateField b.noiseReg).toNat with
  | 0 => div 0
  | 1 => div 1
  | 2 => div 2
  | _ => b.toneReg[2].setWidth 16

/-- The register after `SN_LFSR_SHIFT` (42_noise.md R99). -/
def snShifted (white : Bool) (tapWidth : Nat) (mask lfsr : BitVec 17) : BitVec 17 :=
  (lfsr >>> 1) ||| ((BitVec.ofBool (snFeedback white mask lfsr)).setWidth 17 <<< (tapWidth - 1))

/-- `SN_LFSR_SHIFT` (42_noise.md R99). -/
def snLfsrShift (tapWidth : Nat) (mask : BitVec 17) (b : SnBank) : SnBank :=
  { b with
    noiseOut := snNoiseOutput b.lfsr
    lfsr := snShifted (whiteNoise b.noiseReg) tapWidth mask b.lfsr }

/-- `SN_NOISE_TICK`, for the dividers and the noise-config given (42_noise.md R98). -/
def snNoiseTick (div : Fin 3 → BitVec 16) (tapWidth : Nat) (mask : BitVec 17) (b : SnBank) : SnBank :=
  if b.noiseCnt.toNat ≤ 1 then
    snLfsrShift tapWidth mask { b with noiseCnt := snNoiseReload div b }
  else
    { b with noiseCnt := b.noiseCnt - 1 }

/-- A write of the noise register, then `SN_NOISE_WRITE`: the re-seed where the parameter asks for it
(42_noise.md R100). -/
def writeNoiseReg (reseeds : Bool) (tapWidth : Nat) (v : BitVec 3) (b : SnBank) : SnBank :=
  { b with noiseReg := v, lfsr := if reseeds then snSeed tapWidth else b.lfsr }

end Sys2Proof.Machine
end

