-- ==== Sys2Proof/Machine/State.lean ====
section
/-! DEFINITION. The machine's whole state as plain data, the reasons a step can stop, and the state
after reset (10_state.md). -/

namespace Sys2Proof.Machine

/-- The machine. The first seven fields are the spec's (10_state.md R20, R21, R42; the configuration of
00_scope.md R9 that `INIT` chooses); `result` and `pending` are the model's own (log 1, log 2). Each
family's bank is always there; the bank of the family the chip is not stays at its reset value and
nothing reads it (log 5). -/
structure State where
  /-- `INIT` has been called; R21. -/
  initialised : Bool
  /-- `VARIANT`; 00_scope.md R9. -/
  variant : Variant
  /-- `SN_TAP_WIDTH`; 00_scope.md R9. -/
  tapWidth : Nat
  /-- `SN_FEEDBACK_MASK`; 00_scope.md R9. -/
  feedbackMask : BitVec 17
  /-- The AY family's state. -/
  ay : AyBank
  /-- The SN family's state. -/
  sn : SnBank
  /-- The diagnostic events, oldest first; R42. -/
  diag : List Diag
  /-- What the last operation returned to the host; none for an operation that returns nothing. -/
  result : Option Output
  /-- The host calls not yet taken, oldest first. -/
  pending : List HostOp
  deriving DecidableEq, Repr

/-- The core has no fault outcome (00_scope.md R17, 60_exceptions.md R163), so there is no fault
(log 11). Safe: nothing is stopped that the hardware goes on with. -/
inductive Fault
  deriving DecidableEq, Repr

/-- Why an operation is refused (00_scope.md R17; the names are the model's, log 10). Each is safe: the
spec refuses there too, and gives no effect. -/
inductive Refusal where
  /-- Raised by an arm of `exec` whose instruction has no meaning yet. Safe. -/
  | notModelled (mnemonic : String)
  /-- Raised by every operation but `INIT` before the first `INIT`; 60_exceptions.md R167 (a). Safe. -/
  | notInitialised
  /-- Raised by an operation of the other family; 60_exceptions.md R167 (b). Safe. -/
  | wrongFamily
  /-- Raised by `GG_STEREO` on a variant other than `SN76489_GG`; 60_exceptions.md R167 (c). Safe. -/
  | notGameGear
  /-- Raised by `step` on a reserved word; 60_exceptions.md R167 (d), 30_encoding.md R70. Safe. -/
  | reservedWord
  /-- Raised by `INIT` with a code that names no variant; 60_exceptions.md R166. Safe. -/
  | unknownVariant
  /-- Raised by `INIT` of an SN variant with an illegal noise-config; 70_reset_and_hazards.md R180.
  Safe. -/
  | badNoiseConfig
  deriving DecidableEq, Repr

/-- The machine before its first `INIT` (10_state.md R21). Only `initialised` has a value of the spec's
there; every other field stands at the value `INIT` would give it on an `AY8910` with no noise-config
(DESIGN CHOICE, log 3), nothing is returned yet and no call waits. -/
def State.reset : State where
  initialised := false
  variant := .ay .ay8910
  tapWidth := defaultNoiseConfig.width
  feedbackMask := BitVec.ofNat 17 defaultNoiseConfig.mask
  ay := ayReset
  sn := snReset defaultNoiseConfig.width
  diag := []
  result := none
  pending := []

/-- What an operation answers. -/
abbrev Answer := Host.Outcome State Fault Refusal

end Sys2Proof.Machine
end

