-- ==== Sys2Proof/Machine/Tone.lean ====
section
/-! DEFINITION. The tone dividers' steps (41_tone.md). -/

namespace Sys2Proof.Machine

/-- `AY_TONE_TICK(c)` (41_tone.md R85; period 0 by the same comparison, R86). -/
def ayToneTick (c : Chan) (a : AyBank) : AyBank :=
  let n := a.toneCnt[c].toNat + 1
  if (tonePeriod a c).toNat ≤ n then
    { a with toneCnt := a.toneCnt.set c 0, toneOut := a.toneOut.set c (!a.toneOut[c]) }
  else
    { a with toneCnt := a.toneCnt.set c (BitVec.ofNat 12 n) }

/-- `SN_TONE_TICK(c)` (41_tone.md R88; period 0, R89). -/
def snToneTick (c : Chan) (b : SnBank) : SnBank :=
  if b.toneReg[c] = 0 then
    { b with toneOut := b.toneOut.set c true }
  else if b.toneCnt[c].toNat ≤ 1 then
    { b with toneCnt := b.toneCnt.set c b.toneReg[c], toneOut := b.toneOut.set c (!b.toneOut[c]) }
  else
    { b with toneCnt := b.toneCnt.set c (b.toneCnt[c] - 1) }

end Sys2Proof.Machine
end

