-- ==== Sys2Proof/Machine/Ops.lean ====
section
/-! DEFINITION. The shared operations: the refusals of 60_exceptions.md R167, what an operation returns,
register writes, and the full reset of `INIT`. The core takes no exception and returns from none
(60_exceptions.md R163, R170, R171), so there is no operation for either. -/

namespace Sys2Proof.Machine

/-- The operation completes in state `s` and returns `o` to the host (00_scope.md R17). -/
def returning (o : Option Output) (s : State) : Answer := .next { s with result := o }

/-- Refused before the first `INIT` (60_exceptions.md R167 (a)). -/
def whenInitialised (s : State) (k : Answer) : Answer :=
  if s.initialised then k else .refused .notInitialised

/-- Refused unless the chip is of the AY family (60_exceptions.md R167 (a), (b)). -/
def whenAy (s : State) (k : AyModel → Answer) : Answer :=
  whenInitialised s
    (match s.variant with
    | .ay m => k m
    | .sn _ => .refused .wrongFamily)

/-- Refused unless the chip is of the SN family (60_exceptions.md R167 (a), (b)). -/
def whenSn (s : State) (k : Answer) : Answer :=
  whenInitialised s
    (match s.variant with
    | .sn _ => k
    | .ay _ => .refused .wrongFamily)

/-- Refused unless the chip is `SN76489_GG` (60_exceptions.md R167 (a), (c)). -/
def whenGameGear (s : State) (k : Answer) : Answer :=
  whenInitialised s
    (match s.variant with
    | .sn .sn76489gg => k
    | .sn .sn76489 => .refused .notGameGear
    | .ay _ => .refused .notGameGear)

/-- The state with another AY bank. -/
def State.withAy (s : State) (a : AyBank) : State := { s with ay := a }

/-- The state with another SN bank. -/
def State.withSn (s : State) (b : SnBank) : State := { s with sn := b }

/-- The AY register file written at `n` (10_state.md R24). -/
def setAyReg (n : Fin 16) (d : Byte) (a : AyBank) : AyBank := { a with regs := a.regs.set n d }

/-- `AY_DATA_STORE(n)` on the bank: the store, and the re-arm when `n` is 0xD (44_register_bus.md
R113). -/
def storeAyReg (m : AyModel) (n : Fin 16) (d : Byte) (a : AyBank) : AyBank :=
  if n = 13 then envRearm m (setAyReg n d a) else setAyReg n d a

/-- The latch selector written by a latch byte (44_register_bus.md R131). -/
def setLatch (ch : BitVec 2) (vol : Bool) (b : SnBank) : SnBank :=
  { b with latchCh := ch, latchVol := vol }

/-- An SN tone period written (10_state.md R34). -/
def setTonePeriod (c : Chan) (p : BitVec 10) (b : SnBank) : SnBank :=
  { b with toneReg := b.toneReg.set c p }

/-- An SN volume written (10_state.md R34). -/
def setVolume (c : Fin 4) (v : BitVec 4) (b : SnBank) : SnBank := { b with vol := b.vol.set c v }

/-- The noise-config `INIT` takes: the AY family ignores the operand, the SN family takes the default
when there is none, and a legal one (70_reset_and_hazards.md R179 (b), R180). None where it refuses. -/
def noiseConfigFor (v : Variant) (noise : Option NoiseConfig) : Option NoiseConfig :=
  match v, noise with
  | .ay _, _ => some defaultNoiseConfig
  | .sn _, none => some defaultNoiseConfig
  | .sn _, some c => if noiseConfigLegal c then some c else none

/-- The state after `INIT`: every field at its reset value, the host's waiting calls kept
(70_reset_and_hazards.md R179, R181). -/
def initialisedAs (v : Variant) (c : NoiseConfig) (waiting : List HostOp) : State where
  initialised := true
  variant := v
  tapWidth := c.width
  feedbackMask := BitVec.ofNat 17 c.mask
  ay := ayReset
  sn := snReset c.width
  diag := []
  result := none
  pending := waiting

end Sys2Proof.Machine
end

