-- ==== Sys2Proof/Machine/AyBus.lean ====
section
/-! DEFINITION. The AY bus operations (44_register_bus.md R110 to R130). The context bits an operation
carries do not change what it does: the row already names the register (30_encoding.md R59, log 16). -/

namespace Sys2Proof.Machine

/-- A valid address write (44_register_bus.md R110). -/
def ayAddressWrite (r : BitVec 4) (s : State) : Answer :=
  whenAy s fun _ => returning none (s.withAy { s.ay with active := true, addr := r })

/-- An invalid address write of the byte `d`: `addr` is unchanged, one event is appended
(44_register_bus.md R111, 60_exceptions.md R165). -/
def ayBadAddressWrite (d : Byte) (s : State) : Answer :=
  whenAy s fun _ =>
    returning none
      { s.withAy { s.ay with active := false } with diag := s.diag ++ [.badAddress d] }

/-- `AY_DATA_STORE(n)` (44_register_bus.md R113). -/
def ayDataWrite (n : Fin 16) (d : Byte) (s : State) : Answer :=
  whenAy s fun m => returning none (s.withAy (storeAyReg m n d s.ay))

/-- `AY_ADDR` (44_register_bus.md R110). -/
def execAyAddr (_act : Bool) (_lat : BitVec 4) (r : BitVec 4) (s : State) : Answer :=
  ayAddressWrite r s

/-- `AY_ADDR_BAD`, `BYTE = 1xxx xxxx` (44_register_bus.md R111). -/
def execAyAddrBadBit7 (_act : Bool) (_lat : BitVec 4) (low : BitVec 7) (s : State) : Answer :=
  ayBadAddressWrite (1#1 ++ low) s

/-- `AY_ADDR_BAD`, `BYTE = 01xx xxxx` (44_register_bus.md R111). -/
def execAyAddrBadBit6 (_act : Bool) (_lat : BitVec 4) (low : BitVec 6) (s : State) : Answer :=
  ayBadAddressWrite (1#2 ++ low) s

/-- `AY_ADDR_BAD`, `BYTE = 001x xxxx` (44_register_bus.md R111). -/
def execAyAddrBadBit5 (_act : Bool) (_lat : BitVec 4) (low : BitVec 5) (s : State) : Answer :=
  ayBadAddressWrite (1#3 ++ low) s

/-- `AY_ADDR_BAD`, `BYTE = 0001 xxxx` (44_register_bus.md R111). -/
def execAyAddrBadBit4 (_act : Bool) (_lat : BitVec 4) (low : BitVec 4) (s : State) : Answer :=
  ayBadAddressWrite (1#4 ++ low) s

/-- `AY_DATA_INACTIVE`: dropped, with no diagnostic (44_register_bus.md R112). -/
def execAyDataInactive (_lat : BitVec 4) (_byte : Byte) (s : State) : Answer :=
  whenAy s fun _ => returning none s

/-- `AY_DATA_R0`: tone 0 fine (44_register_bus.md R114). -/
def execAyDataR0 (d : Byte) (s : State) : Answer := ayDataWrite 0 d s

/-- `AY_DATA_R1`: tone 0 coarse (44_register_bus.md R115). -/
def execAyDataR1 (d : Byte) (s : State) : Answer := ayDataWrite 1 d s

/-- `AY_DATA_R2`: tone 1 fine (44_register_bus.md R116). -/
def execAyDataR2 (d : Byte) (s : State) : Answer := ayDataWrite 2 d s

/-- `AY_DATA_R3`: tone 1 coarse (44_register_bus.md R117). -/
def execAyDataR3 (d : Byte) (s : State) : Answer := ayDataWrite 3 d s

/-- `AY_DATA_R4`: tone 2 fine (44_register_bus.md R118). -/
def execAyDataR4 (d : Byte) (s : State) : Answer := ayDataWrite 4 d s

/-- `AY_DATA_R5`: tone 2 coarse (44_register_bus.md R119). -/
def execAyDataR5 (d : Byte) (s : State) : Answer := ayDataWrite 5 d s

/-- `AY_DATA_R6`: noise period (44_register_bus.md R120). -/
def execAyDataR6 (d : Byte) (s : State) : Answer := ayDataWrite 6 d s

/-- `AY_DATA_R7`: mixer (44_register_bus.md R121). -/
def execAyDataR7 (d : Byte) (s : State) : Answer := ayDataWrite 7 d s

/-- `AY_DATA_R8`: amplitude 0 (44_register_bus.md R122). -/
def execAyDataR8 (d : Byte) (s : State) : Answer := ayDataWrite 8 d s

/-- `AY_DATA_R9`: amplitude 1 (44_register_bus.md R123). -/
def execAyDataR9 (d : Byte) (s : State) : Answer := ayDataWrite 9 d s

/-- `AY_DATA_R10`: amplitude 2 (44_register_bus.md R124). -/
def execAyDataR10 (d : Byte) (s : State) : Answer := ayDataWrite 10 d s

/-- `AY_DATA_R11`: envelope fine (44_register_bus.md R125). -/
def execAyDataR11 (d : Byte) (s : State) : Answer := ayDataWrite 11 d s

/-- `AY_DATA_R12`: envelope coarse (44_register_bus.md R126). -/
def execAyDataR12 (d : Byte) (s : State) : Answer := ayDataWrite 12 d s

/-- `AY_DATA_R13`: envelope shape, with the re-arm (44_register_bus.md R127). -/
def execAyDataR13 (d : Byte) (s : State) : Answer := ayDataWrite 13 d s

/-- `AY_DATA_R14`: I/O port A (44_register_bus.md R128). -/
def execAyDataR14 (d : Byte) (s : State) : Answer := ayDataWrite 14 d s

/-- `AY_DATA_R15`: I/O port B (44_register_bus.md R129). -/
def execAyDataR15 (d : Byte) (s : State) : Answer := ayDataWrite 15 d s

end Sys2Proof.Machine
end

