-- ==== Sys2Proof/Machine/HostOps.lean ====
section
/-! DEFINITION. `INIT` and the divisor queries (70_reset_and_hazards.md R179, 46_host_ops.md). -/

namespace Sys2Proof.Machine

/-- `INIT` (70_reset_and_hazards.md R179 to R181; 60_exceptions.md R166). -/
def execInit (v : BitVec 4) (noise : Option NoiseConfig) (s : State) : Answer :=
  match variantOfCode v with
  | none => .refused .unknownVariant
  | some var =>
    match noiseConfigFor var noise with
    | none => .refused .badNoiseConfig
    | some c => .next (initialisedAs var c s.pending)

/-- `CLOCK_DIV` of the chip (46_host_ops.md R159). -/
def clockDivisor (s : State) : Nat := clockDiv (familyOf s.variant)

/-- `GET_CLOCK_DIVISOR` (46_host_ops.md R159). -/
def execGetClockDivisor (s : State) : Answer :=
  whenInitialised s (returning (some (.divisor (clockDivisor s))) s)

/-- `GET_SAMPLE_RATE`: the exact rational `clockHz / CLOCK_DIV` (46_host_ops.md R160). -/
def execGetSampleRate (clockHz : Nat) (s : State) : Answer :=
  whenInitialised s (returning (some (.rate (mkRat clockHz (clockDivisor s)))) s)

end Sys2Proof.Machine
end

