-- ==== Sys2Proof/Machine/Tables.lean ====
section
/-! DEFINITION. The amplitude tables as parameters (40_amplitude_table.md R76 to R83). A table is entry 0
plus a sum of natural rises, which gives exactly the non-decreasing integer tables (P1, R79), with
entry 0 equal to 0 where the profile says so (P2, R80) and any value otherwise (log 6). -/

namespace Sys2Proof.Machine

/-- The real a root and a natural stand for. Its values are exactly the reals above 0
(`loadOf_pos`, `exists_loadOf_eq`). -/
def loadOf (root : ℝ) (n : Nat) : ℝ := root * root + ((mkRat 1 (n + 1) : Rat) : ℝ)

/-- `LOAD_R[c]`, a real above 0 and any such real (00_scope.md R9; log 6). -/
def loadResistance (c : Chan) : ℝ := loadOf (Config.loadRoot c) (Config.loadFloor c)

/-- The rise of a table from entry 0 to entry `i`. -/
def tableClimb (p : Profile) (m : TableMode) (load : ℝ) : Nat → Nat
  | 0 => 0
  | i + 1 => tableClimb p m load i + Config.tableRise p m load i

/-- Entry 0 of a table (40_amplitude_table.md R80). -/
def tableFirst (p : Profile) (m : TableMode) (load : ℝ) : Int :=
  if Config.zeroIsOff p then 0 else Config.tableBase p m load

/-- Entry `i` of a table (40_amplitude_table.md R76, R79). -/
def tableEntry (p : Profile) (m : TableMode) (load : ℝ) (i : Nat) : Int :=
  tableFirst p m load + (tableClimb p m load i : Int)

/-- The profile of `VOL_TABLE` (40_amplitude_table.md R77). -/
def volProfile : AyModel → Profile
  | .ay8910 => .ay8910
  | .ym2149 => .ym2149Tone

/-- The profile of `ENV_TABLE` (40_amplitude_table.md R77). -/
def envProfile : AyModel → Profile
  | .ay8910 => .ay8910
  | .ym2149 => .ym2149Envelope

/-- `VOL_TABLE[c][v]` of the model (40_amplitude_table.md R77, R78). -/
def volTable (m : AyModel) (c : Chan) (v : BitVec 4) : Int :=
  tableEntry (volProfile m) .normalised (loadResistance c) v.toNat

/-- `ENV_TABLE[c][l]` of the model (40_amplitude_table.md R77, R78). The levels of a run are at most
`ENV_MAX`, so the index stays inside the table (45_mixer.md R151). -/
def envTable (m : AyModel) (c : Chan) (l : BitVec 5) : Int :=
  tableEntry (envProfile m) .absolute (loadResistance c) l.toNat

end Sys2Proof.Machine
end

