-- ==== Sys2Proof/Machine/Mixer.lean ====
section
/-! DEFINITION. The mixer and `GET_SAMPLES` (45_mixer.md). -/

namespace Sys2Proof.Machine

/-- `amp_c` of the AY family (45_mixer.md R151). -/
def ayAmplitude (m : AyModel) (a : AyBank) (c : Chan) : Int :=
  if envelopeEnable a c then envTable m c a.envLevel else volTable m c (volumeField a c)

/-- `s_c` (45_mixer.md R152). -/
def aySample (m : AyModel) (a : AyBank) (c : Chan) : Int :=
  if gate a c then ayAmplitude m a c else 0

/-- `o_c`: the tone output of channels 0 to 2, the noise output of channel 3 (45_mixer.md R153). -/
def snChannelOut (b : SnBank) (c : Fin 4) : Bool :=
  if h : c.val < 3 then b.toneOut[c.val] else b.noiseOut

/-- `amp_c` of the SN family (45_mixer.md R153). -/
def snAmplitude (b : SnBank) (c : Fin 4) : Int :=
  if snChannelOut b c then Config.snVolTable b.vol[c] else Config.snMute

/-- The exact sum of the channels enabled on one side (45_mixer.md R154). -/
def snSide (b : SnBank) (enabled : Fin 4 → Bool) : Int :=
  (if enabled 0 then snAmplitude b 0 else 0) + (if enabled 1 then snAmplitude b 1 else 0)
    + (if enabled 2 then snAmplitude b 2 else 0) + (if enabled 3 then snAmplitude b 3 else 0)

/-- What `GET_SAMPLES` returns (45_mixer.md R152, R154). -/
def sampleOf (s : State) : Output :=
  match s.variant with
  | .ay m => .mono (aySample m s.ay 0) (aySample m s.ay 1) (aySample m s.ay 2)
  | .sn _ => .stereo (snSide s.sn (leftEnabled s.sn.stereo)) (snSide s.sn (rightEnabled s.sn.stereo))

/-- `GET_SAMPLES`: a pure read of the state (45_mixer.md R155). -/
def execGetSamples (s : State) : Answer :=
  whenInitialised s (returning (some (sampleOf s)) s)

end Sys2Proof.Machine
end

