-- ==== Sys2Proof/Machine/SnBus.lean ====
section
/-! DEFINITION. The SN bus operations and the stereo mask write (44_register_bus.md R131 to R149). The
context bits a latch byte carries do not change what it does (30_encoding.md R59, log 16). -/

namespace Sys2Proof.Machine

/-- A latch byte for a tone period: the latch selector, then the low nibble (44_register_bus.md R131). -/
def snLatchTone (c : Chan) (d : BitVec 4) (s : State) : Answer :=
  whenSn s
    (returning none
      (s.withSn
        (setTonePeriod c (withLowNibble s.sn.toneReg[c] d)
          (setLatch (BitVec.ofNat 2 c.val) false s.sn))))

/-- A latch byte for a volume (44_register_bus.md R131). -/
def snLatchVolume (c : Fin 4) (d : BitVec 4) (s : State) : Answer :=
  whenSn s
    (returning none
      (s.withSn (setVolume c d (setLatch (BitVec.ofNat 2 c.val) true s.sn))))

/-- A data byte for a tone period: bits [9:4]; the latch selector stays (44_register_bus.md R140). -/
def snDataTone (c : Chan) (d : BitVec 7) (s : State) : Answer :=
  whenSn s
    (returning none (s.withSn (setTonePeriod c (withHighBits s.sn.toneReg[c] d) s.sn)))

/-- A data byte for a volume (44_register_bus.md R140). -/
def snDataVolume (c : Fin 4) (d : BitVec 7) (s : State) : Answer :=
  whenSn s (returning none (s.withSn (setVolume c (dataVolumeBits d) s.sn)))

/-- `SN_LATCH_TONE0` (44_register_bus.md R132). -/
def execSnLatchTone0 (_lch : BitVec 2) (_lvol : Bool) (d : BitVec 4) (s : State) : Answer :=
  snLatchTone 0 d s

/-- `SN_LATCH_TONE1` (44_register_bus.md R133). -/
def execSnLatchTone1 (_lch : BitVec 2) (_lvol : Bool) (d : BitVec 4) (s : State) : Answer :=
  snLatchTone 1 d s

/-- `SN_LATCH_TONE2` (44_register_bus.md R134). -/
def execSnLatchTone2 (_lch : BitVec 2) (_lvol : Bool) (d : BitVec 4) (s : State) : Answer :=
  snLatchTone 2 d s

/-- `SN_LATCH_NOISE` (44_register_bus.md R135, 42_noise.md R100). -/
def execSnLatchNoise (_lch : BitVec 2) (_lvol : Bool) (d : BitVec 4) (s : State) : Answer :=
  whenSn s
    (returning none
      (s.withSn
        (writeNoiseReg Config.snNoiseWriteReseeds s.tapWidth (latchNoiseBits d)
          (setLatch 3 false s.sn))))

/-- `SN_LATCH_VOL0` (44_register_bus.md R136). -/
def execSnLatchVol0 (_lch : BitVec 2) (_lvol : Bool) (d : BitVec 4) (s : State) : Answer :=
  snLatchVolume 0 d s

/-- `SN_LATCH_VOL1` (44_register_bus.md R137). -/
def execSnLatchVol1 (_lch : BitVec 2) (_lvol : Bool) (d : BitVec 4) (s : State) : Answer :=
  snLatchVolume 1 d s

/-- `SN_LATCH_VOL2` (44_register_bus.md R138). -/
def execSnLatchVol2 (_lch : BitVec 2) (_lvol : Bool) (d : BitVec 4) (s : State) : Answer :=
  snLatchVolume 2 d s

/-- `SN_LATCH_VOL3` (44_register_bus.md R139). -/
def execSnLatchVol3 (_lch : BitVec 2) (_lvol : Bool) (d : BitVec 4) (s : State) : Answer :=
  snLatchVolume 3 d s

/-- `SN_DATA_TONE0` (44_register_bus.md R141). -/
def execSnDataTone0 (d : BitVec 7) (s : State) : Answer := snDataTone 0 d s

/-- `SN_DATA_TONE1` (44_register_bus.md R142). -/
def execSnDataTone1 (d : BitVec 7) (s : State) : Answer := snDataTone 1 d s

/-- `SN_DATA_TONE2` (44_register_bus.md R143). -/
def execSnDataTone2 (d : BitVec 7) (s : State) : Answer := snDataTone 2 d s

/-- `SN_DATA_NOISE` (44_register_bus.md R144, 42_noise.md R100). -/
def execSnDataNoise (d : BitVec 7) (s : State) : Answer :=
  whenSn s
    (returning none
      (s.withSn (writeNoiseReg Config.snNoiseWriteReseeds s.tapWidth (dataNoiseBits d) s.sn)))

/-- `SN_DATA_VOL0` (44_register_bus.md R145). -/
def execSnDataVol0 (d : BitVec 7) (s : State) : Answer := snDataVolume 0 d s

/-- `SN_DATA_VOL1` (44_register_bus.md R146). -/
def execSnDataVol1 (d : BitVec 7) (s : State) : Answer := snDataVolume 1 d s

/-- `SN_DATA_VOL2` (44_register_bus.md R147). -/
def execSnDataVol2 (d : BitVec 7) (s : State) : Answer := snDataVolume 2 d s

/-- `SN_DATA_VOL3` (44_register_bus.md R148). -/
def execSnDataVol3 (d : BitVec 7) (s : State) : Answer := snDataVolume 3 d s

/-- `GG_STEREO` (44_register_bus.md R149). -/
def execGgStereo (m : Byte) (s : State) : Answer :=
  whenGameGear s (returning none (s.withSn { s.sn with stereo := m }))

end Sys2Proof.Machine
end

