-- ==== Sys2Proof/Machine/Tick.lean ====
section
/-! DEFINITION. `TICK` (46_host_ops.md R157). -/

namespace Sys2Proof.Machine

/-- One cycle of every AY unit: tones, noise, envelope (46_host_ops.md R157). -/
def ayTick (m : AyModel) (a : AyBank) : AyBank :=
  envTick m (ayNoiseTick (ayToneTick 2 (ayToneTick 1 (ayToneTick 0 a))))

/-- One cycle of every SN unit: tones, noise (46_host_ops.md R157). -/
def snTick (div : Fin 3 → BitVec 16) (tapWidth : Nat) (mask : BitVec 17) (b : SnBank) : SnBank :=
  snNoiseTick div tapWidth mask (snToneTick 2 (snToneTick 1 (snToneTick 0 b)))

/-- `TICK` (46_host_ops.md R157). -/
def execTick (s : State) : Answer :=
  whenInitialised s
    (match s.variant with
    | .ay m => returning none (s.withAy (ayTick m s.ay))
    | .sn _ => returning none (s.withSn (snTick Config.snNoiseDiv s.tapWidth s.feedbackMask s.sn)))

end Sys2Proof.Machine
end

