-- ==== Sys2Proof/Machine/Dispatch.lean ====
section
/-! DEFINITION. One arm per operation, each one call of its meaning. -/

namespace Sys2Proof.Machine

def exec (i : Instr) (s : State) : Host.Outcome State Fault Refusal :=
  match i with
  | .ayAddr act lat r => Sys2Proof.Machine.execAyAddr act lat r s
  | .ayAddrBadBit7 act lat low => Sys2Proof.Machine.execAyAddrBadBit7 act lat low s
  | .ayAddrBadBit6 act lat low => Sys2Proof.Machine.execAyAddrBadBit6 act lat low s
  | .ayAddrBadBit5 act lat low => Sys2Proof.Machine.execAyAddrBadBit5 act lat low s
  | .ayAddrBadBit4 act lat low => Sys2Proof.Machine.execAyAddrBadBit4 act lat low s
  | .ayDataInactive lat byte => Sys2Proof.Machine.execAyDataInactive lat byte s
  | .ayDataR0 d => Sys2Proof.Machine.execAyDataR0 d s
  | .ayDataR1 d => Sys2Proof.Machine.execAyDataR1 d s
  | .ayDataR2 d => Sys2Proof.Machine.execAyDataR2 d s
  | .ayDataR3 d => Sys2Proof.Machine.execAyDataR3 d s
  | .ayDataR4 d => Sys2Proof.Machine.execAyDataR4 d s
  | .ayDataR5 d => Sys2Proof.Machine.execAyDataR5 d s
  | .ayDataR6 d => Sys2Proof.Machine.execAyDataR6 d s
  | .ayDataR7 d => Sys2Proof.Machine.execAyDataR7 d s
  | .ayDataR8 d => Sys2Proof.Machine.execAyDataR8 d s
  | .ayDataR9 d => Sys2Proof.Machine.execAyDataR9 d s
  | .ayDataR10 d => Sys2Proof.Machine.execAyDataR10 d s
  | .ayDataR11 d => Sys2Proof.Machine.execAyDataR11 d s
  | .ayDataR12 d => Sys2Proof.Machine.execAyDataR12 d s
  | .ayDataR13 d => Sys2Proof.Machine.execAyDataR13 d s
  | .ayDataR14 d => Sys2Proof.Machine.execAyDataR14 d s
  | .ayDataR15 d => Sys2Proof.Machine.execAyDataR15 d s
  | .snLatchTone0 lch lvol d => Sys2Proof.Machine.execSnLatchTone0 lch lvol d s
  | .snLatchTone1 lch lvol d => Sys2Proof.Machine.execSnLatchTone1 lch lvol d s
  | .snLatchTone2 lch lvol d => Sys2Proof.Machine.execSnLatchTone2 lch lvol d s
  | .snLatchNoise lch lvol d => Sys2Proof.Machine.execSnLatchNoise lch lvol d s
  | .snLatchVol0 lch lvol d => Sys2Proof.Machine.execSnLatchVol0 lch lvol d s
  | .snLatchVol1 lch lvol d => Sys2Proof.Machine.execSnLatchVol1 lch lvol d s
  | .snLatchVol2 lch lvol d => Sys2Proof.Machine.execSnLatchVol2 lch lvol d s
  | .snLatchVol3 lch lvol d => Sys2Proof.Machine.execSnLatchVol3 lch lvol d s
  | .snDataTone0 d => Sys2Proof.Machine.execSnDataTone0 d s
  | .snDataTone1 d => Sys2Proof.Machine.execSnDataTone1 d s
  | .snDataTone2 d => Sys2Proof.Machine.execSnDataTone2 d s
  | .snDataNoise d => Sys2Proof.Machine.execSnDataNoise d s
  | .snDataVol0 d => Sys2Proof.Machine.execSnDataVol0 d s
  | .snDataVol1 d => Sys2Proof.Machine.execSnDataVol1 d s
  | .snDataVol2 d => Sys2Proof.Machine.execSnDataVol2 d s
  | .snDataVol3 d => Sys2Proof.Machine.execSnDataVol3 d s
  | .ggStereo m => Sys2Proof.Machine.execGgStereo m s
  | .tick => Sys2Proof.Machine.execTick s
  | .getSamples => Sys2Proof.Machine.execGetSamples s
  | .init v noise => Sys2Proof.Machine.execInit v noise s
  | .getClockDivisor => Sys2Proof.Machine.execGetClockDivisor s
  | .getSampleRate clockHz => Sys2Proof.Machine.execGetSampleRate clockHz s

end Sys2Proof.Machine
end

