-- ==== Sys2Proof/Machine/Fetch.lean ====
section
/-! DEFINITION. Taking a host call: the decoder fills the context bits of the word from the state
(30_encoding.md R58, R59), decodes it and runs what it names; and the placing of a table word as the
next host call. -/

namespace Sys2Proof.Machine

/-- The word the decoder forms (30_encoding.md R59): `W[12:8]` of an AY_BUS word and `W[10:8]` of an
SN_BUS word come from the state, whatever the host put there (log 12). -/
def formWord (s : State) (w : Word) : Word :=
  match (field w 14 3).toNat with
  | 0 => BitVec.ofNat 17 (ayBusNat (flag w 13) s.ay.active s.ay.addr (field w 0 8).toNat)
  | 1 =>
    BitVec.ofNat 17
      (snBusNat s.sn.latchCh s.sn.latchVol (field w 0 8).toNat + (field w 11 3).toNat * 2 ^ 11)
  | _ => w

/-- One host call run on the state it finds; a reserved word is refused (30_encoding.md R70,
60_exceptions.md R167 (d)). -/
def runCall (op : HostOp) (s : State) : Answer :=
  match decode (formWord s op.word) op.beside with
  | .ok i => exec i s
  | .error _ => .refused .reservedWord

/-- The variant whose entry point a word belongs to, for a machine that has not been initialised
(70_reset_and_hazards.md R182, log 13). None for `INIT`, which needs no boot. -/
def bootVariant (w : Word) : Option Variant :=
  match (field w 14 3).toNat with
  | 0 => some (.ay .ay8910)
  | 1 => some (.sn .sn76489gg)
  | 2 => some (.sn .sn76489gg)
  | 5 => none
  | _ => some (.ay .ay8910)

/-- The machine as the word's first use needs it: booted if it is not yet (log 13). -/
def bootedFor (w : Word) (s : State) : State :=
  if s.initialised then s
  else
    match bootVariant w with
    | some v => initialisedAs v defaultNoiseConfig s.pending
    | none => s

/-- The state whose context is the one the word carries, so that the decoder forms exactly this word
(30_encoding.md R59). -/
def withContextOf (w : Word) (s : State) : State :=
  match (field w 14 3).toNat with
  | 0 => s.withAy { s.ay with active := flag w 12, addr := field w 8 4 }
  | 1 => s.withSn { s.sn with latchCh := field w 9 2, latchVol := flag w 8 }
  | _ => s

/-- The word as the next host call, with no operand beside it but zeros. -/
def placeWord (w : Word) (s : State) : State :=
  let ready := withContextOf w (bootedFor w s)
  { ready with pending := ⟨w, ⟨none, 0⟩⟩ :: ready.pending }

end Sys2Proof.Machine
end

