-- ==== Sys2Proof/Machine/Step.lean ====
section
/-! DEFINITION. The step: the host's oldest waiting call is taken and run (20_memory.md R52). -/

namespace Sys2Proof.Machine

/-- One step. With no call waiting the core does nothing (60_exceptions.md R178, log 1). -/
def step (s : State) : Host.Outcome State Fault Refusal :=
  match s.pending with
  | [] => .next s
  | op :: rest => runCall op { s with pending := rest }

/-- The word `w` of the opcode table placed as the next host call, ahead of any that wait, on a machine
booted for it and in the context the word carries (log 13). A word is the 17 low bits of `w`. -/
def State.withFetchWord (s : State) (_nbits w : Nat) : State := placeWord (BitVec.ofNat 17 w) s

end Sys2Proof.Machine
end

