-- ==== Sys2Proof/Machine/HostCalls.lean ====
section
/-! DEFINITION. The host's side: the entry points (30_encoding.md R57), the words they pass, the
assembler's pseudo-operations (R73), and snapshot and restore (10_state.md R41). -/

namespace Sys2Proof.Machine

/-- The entry points (30_encoding.md R57), one assembler line each (R72). -/
inductive HostCall where
  /-- `writeRegisterBus(byte, isAddressPhase = true)`; `AYA`. -/
  | aya (byte : Byte)
  /-- `writeRegisterBus(byte, isAddressPhase = false)`; `AYD`. -/
  | ayd (byte : Byte)
  /-- `writeRegisterBus(byte)` of the SN family; `SNW`. -/
  | snw (byte : Byte)
  /-- `writeStereoMask(byte)`; `GGST`. -/
  | ggst (byte : Byte)
  /-- `tick()`; `TICK`. -/
  | tick
  /-- `getSamples()`; `SAMPLE`. -/
  | sample
  /-- `initialize(variant, optional noise-config)`; `INIT`. -/
  | init (var : BitVec 4) (noise : Option NoiseConfig)
  /-- `getClockDivisor()`; `CLKDIV`. -/
  | clkdiv
  /-- `getSampleRate(clockHz)`; `RATE`. -/
  | rate (clockHz : Nat)
  deriving DecidableEq, Repr

/-- The word a call passes, its context bits zero: the decoder fills them (30_encoding.md R59, R72). -/
def HostCall.toOp : HostCall → HostOp
  | .aya byte => ⟨BitVec.ofNat 17 (0x02000 + byte.toNat), ⟨none, 0⟩⟩
  | .ayd byte => ⟨BitVec.ofNat 17 byte.toNat, ⟨none, 0⟩⟩
  | .snw byte => ⟨BitVec.ofNat 17 (0x04000 + byte.toNat), ⟨none, 0⟩⟩
  | .ggst byte => ⟨BitVec.ofNat 17 (0x08000 + byte.toNat), ⟨none, 0⟩⟩
  | .tick => ⟨0x0C000, ⟨none, 0⟩⟩
  | .sample => ⟨0x10000, ⟨none, 0⟩⟩
  | .init var noise => ⟨BitVec.ofNat 17 (0x14000 + var.toNat), ⟨noise, 0⟩⟩
  | .clkdiv => ⟨0x18000, ⟨none, 0⟩⟩
  | .rate clockHz => ⟨0x1C000, ⟨none, clockHz⟩⟩

/-- `AYW r, v` (30_encoding.md R73). -/
def ayw (r v : Byte) : List HostCall := [.aya r, .ayd v]

/-- `TICKS n` (30_encoding.md R73). -/
def ticks (n : Nat) : List HostCall := List.replicate n .tick

/-- `SNTONE c, p` (30_encoding.md R73). -/
def snTone (c : Chan) (p : BitVec 10) : List HostCall :=
  [.snw (BitVec.ofNat 8 (0x80 + c.val * 32 + p.toNat % 16)), .snw (BitVec.ofNat 8 (p.toNat / 16))]

/-- `SNVOL c, v` (30_encoding.md R73). -/
def snVol (c : Fin 4) (v : BitVec 4) : List HostCall :=
  [.snw (BitVec.ofNat 8 (0x90 + c.val * 32 + v.toNat))]

/-- `SNNOISE v` (30_encoding.md R73). -/
def snNoise (v : BitVec 3) : List HostCall := [.snw (BitVec.ofNat 8 (0xE0 + v.toNat))]

/-- The machine with a sequence of calls waiting. -/
def State.withCalls (s : State) (calls : List HostCall) : State :=
  { s with pending := calls.map HostCall.toOp }

/-- A snapshot: the whole chip, without what belongs to the host (10_state.md R41, log 19). -/
def State.snapshot (s : State) : State := { s with result := none, pending := [] }

/-- The chip of a snapshot put in place of this one; the host keeps its waiting calls and what it was
last returned (10_state.md R41, log 19). -/
def State.restore (snap s : State) : State := { snap with result := s.result, pending := s.pending }

end Sys2Proof.Machine
end

