-- ==== Sys2Proof/Safety.lean ====
section
/-! DEFINITION. What counts as a safe run, and the invariants of 10_state.md R43 and the rules it cites,
in the terms claims use. -/

namespace Sys2Proof

open Machine

/-- The SN noise-config in force is legal and the shift register keeps to its width
(70_reset_and_hazards.md R180, 10_state.md R39). -/
abbrev NoiseFits (s : State) : Prop :=
  1 ≤ s.tapWidth ∧ s.tapWidth ≤ 17 ∧ s.feedbackMask.toNat < 2 ^ s.tapWidth ∧
    s.sn.lfsr.toNat < 2 ^ s.tapWidth

/-- The latched control bits are those of register 0xD (10_state.md R43 (e)). -/
abbrev LatchedControl (a : AyBank) : Prop :=
  a.envCont = a.regs[13].getLsbD 3 ∧ a.envAtt = a.regs[13].getLsbD 2 ∧
    a.envAlt = a.regs[13].getLsbD 1 ∧ a.envHold = a.regs[13].getLsbD 0

/-- The direction is the attack bit's, but under the alternate rule (43_envelope.md R107 (c)). -/
abbrev AttackFollows (a : AyBank) : Prop :=
  a.envAttack = a.envAtt ∨ (a.envCont = true ∧ a.envHold = false ∧ a.envAlt = true)

/-- The level is in range, and frozen only at an extreme (10_state.md R43 (c), 43_envelope.md R107). -/
abbrev LevelFits (m : AyModel) (a : AyBank) : Prop :=
  a.envLevel.toNat ≤ (envMax m).toNat ∧
    (a.envHolding = true → a.envLevel = 0 ∨ a.envLevel = envMax m)

/-- What the other family's bank and the variant-bound fields hold (10_state.md R20, R37). -/
def variantFits (s : State) : Bool :=
  match s.variant with
  | .ay m =>
    decide (LevelFits m s.ay) && decide (s.sn = snReset 16) && decide (s.tapWidth = 16)
      && decide (s.feedbackMask = 9)
  | .sn .sn76489 => decide (s.ay = ayReset) && decide (s.sn.stereo = 0xFF)
  | .sn .sn76489gg => decide (s.ay = ayReset)

/-- Every diagnostic event carries a byte with a nonzero upper nibble (60_exceptions.md R165). -/
def diagFits (s : State) : Bool :=
  s.diag.all fun e =>
    match e with
    | .badAddress b => decide (16 ≤ b.toNat)

/-- The invariant every step keeps. -/
abbrev Inv (s : State) : Prop :=
  NoiseFits s ∧ s.ay.lfsr ≠ 0 ∧ LatchedControl s.ay ∧ AttackFollows s.ay ∧ variantFits s = true ∧
    diagFits s = true

/-- The variant in force: none before the first `INIT`. -/
def Machine.State.chip (s : State) : Option Variant := if s.initialised then some s.variant else none

/-- A host call the contract allows on this chip, and the chip after it: none where it is refused
(60_exceptions.md R166, R167; 70_reset_and_hazards.md R180). -/
def allowedCall (chip : Option Variant) (c : HostCall) : Option (Option Variant) :=
  match c, chip with
  | .init v noise, _ =>
    match variantOfCode v with
    | none => none
    | some var => (noiseConfigFor var noise).map fun _ => some var
  | .aya _, some (.ay m) => some (some (.ay m))
  | .ayd _, some (.ay m) => some (some (.ay m))
  | .snw _, some (.sn m) => some (some (.sn m))
  | .ggst _, some (.sn .sn76489gg) => some (some (.sn .sn76489gg))
  | .tick, some v => some (some v)
  | .sample, some v => some (some v)
  | .clkdiv, some v => some (some v)
  | .rate _, some v => some (some v)
  | _, _ => none

/-- A sequence of host calls that keeps the contract from this chip on (46_host_ops.md R162): a safe run,
of which no step is refused. -/
def keepsContract (chip : Option Variant) : List HostCall → Bool
  | [] => true
  | c :: rest =>
    match allowedCall chip c with
    | none => false
    | some next => keepsContract next rest

/-- Two states that differ only in their diagnostics (60_exceptions.md R165). -/
def SameButDiag (s t : State) : Prop := t = { s with diag := t.diag }

/-- Two outcomes alike: both completed in states that differ only in their diagnostics, or both refused
for the same reason (the core has no fault). -/
def AlikeButDiag : Answer → Answer → Prop
  | .next s, .next t => SameButDiag s t
  | .refused r, .refused q => r = q
  | _, _ => False

/-- `k` runs of `TICK`, stopping at a refusal. -/
def tickTimes : Nat → State → Answer
  | 0, s => .next s
  | k + 1, s =>
    match exec .tick s with
    | .next t => tickTimes k t
    | .fault r => .fault r
    | .refused r => .refused r

/-- The AY data writes, one for each register (44_register_bus.md R114 to R129). -/
def ayDataWrites (d : Byte) : Vector Instr 16 :=
  #v[.ayDataR0 d, .ayDataR1 d, .ayDataR2 d, .ayDataR3 d, .ayDataR4 d, .ayDataR5 d, .ayDataR6 d,
    .ayDataR7 d, .ayDataR8 d, .ayDataR9 d, .ayDataR10 d, .ayDataR11 d, .ayDataR12 d, .ayDataR13 d,
    .ayDataR14 d, .ayDataR15 d]

/-- The SN tone latch bytes (44_register_bus.md R132 to R134). -/
def snToneLatches (lch : BitVec 2) (lvol : Bool) (d : BitVec 4) : Vector Instr 3 :=
  #v[.snLatchTone0 lch lvol d, .snLatchTone1 lch lvol d, .snLatchTone2 lch lvol d]

/-- The SN volume latch bytes (44_register_bus.md R136 to R139). -/
def snVolumeLatches (lch : BitVec 2) (lvol : Bool) (d : BitVec 4) : Vector Instr 4 :=
  #v[.snLatchVol0 lch lvol d, .snLatchVol1 lch lvol d, .snLatchVol2 lch lvol d,
    .snLatchVol3 lch lvol d]

/-- The SN tone data bytes (44_register_bus.md R141 to R143). -/
def snToneData (d : BitVec 7) : Vector Instr 3 := #v[.snDataTone0 d, .snDataTone1 d, .snDataTone2 d]

/-- The SN volume data bytes (44_register_bus.md R145 to R148). -/
def snVolumeData (d : BitVec 7) : Vector Instr 4 :=
  #v[.snDataVol0 d, .snDataVol1 d, .snDataVol2 d, .snDataVol3 d]

/-- The operation is a bus write of the AY family (30_encoding.md R68, rows 0 to 21). -/
abbrev Instr.isAyBus (i : Instr) : Prop := i.rowIndex < 22

/-- The operation is a bus write of the SN family (30_encoding.md R68, rows 22 to 37). -/
abbrev Instr.isSnBus (i : Instr) : Prop := 22 ≤ i.rowIndex ∧ i.rowIndex < 38

/-- The operation is `INIT` (30_encoding.md R68, row 41). -/
abbrev Instr.isInit (i : Instr) : Prop := i.rowIndex = 41

/-- How many of the 17 bits of `v` are set. -/
def setBits (v : BitVec 17) : Nat := ((List.range 17).filter fun i => v.getLsbD i).length

/-- The envelope level at boundary `k` after a re-arm, for the largest level `M` and the control bits,
read off the table of 43_envelope.md R108. -/
def shapeLevel (M : Nat) (cont att alt hold : Bool) (k : Nat) : Nat :=
  let rising (up : Bool) (r : Nat) : Nat := if up then r else M - r
  if k ≤ M then rising att k
  else if cont = false then 0
  else if hold then (if att = alt then 0 else M)
  else if alt then rising (att ^^ decide (k / (M + 1) % 2 = 1)) (k % (M + 1))
  else rising att (k % (M + 1))

end Sys2Proof
end

