-- ==== Sys2Proof/Certificates/Slice0/Obligations.lean ====
section
/-! DEFINITION. The statements for the provers. Each docstring names the rule or the sentence of spec/
it formalises. Where a statement says "the chip is otherwise unchanged" it compares snapshots: the
whole state less the model's own fields `result` and `pending` (log 2, log 1). The core has no memory
(20_memory.md R45), so no statement has a memory clause. -/

open Sys2Proof Sys2Proof.Machine

/-- Decode and encode agree: no bit of an operation's encoding and no operand beside it is dropped
(30_encoding.md section 5; the word W is the spec's own device, D26). -/
def Obligations.EveryOperationDecodesFromItsWord : Prop :=
  ∀ i : Instr, decode (encode i) (besideOf i) = .ok i

/-- Each word has one meaning: encoding what a word decodes to gives the word back
(30_encoding.md section 5, D26). -/
def Obligations.DecodedWordsEncodeBack : Prop :=
  ∀ (w : Word) (b : Beside) (i : Instr), decode w b = .ok i → encode i = w

/-- The decoder reads a word as the operation of row k exactly when the word matches row k of the
table, so that no word matches two rows (30_encoding.md section 5, D26). -/
def Obligations.DecoderFollowsOpcodeTable : Prop :=
  opcodeRows.length = 44 ∧
  ∀ (w : Word) (b : Beside) (k : Nat) (row : OpcodeRow), opcodeRows[k]? = some row →
    (row.hits w = true ↔ ∃ i, decode w b = .ok i ∧ i.rowIndex = k)

/-- The reserved words are exactly those of the four cases, each rejected by its own name
(30_encoding.md section 6, D23, D26). -/
def Obligations.ReservedWordsAreExactly : Prop :=
  ∀ (w : Word) (b : Beside),
    (decode w b = .error .snBus ↔ w.toNat / 2 ^ 14 = 1 ∧ w.toNat / 2 ^ 11 % 2 ^ 3 ≠ 0) ∧
    (decode w b = .error .stereo ↔ w.toNat / 2 ^ 14 = 2 ∧ w.toNat / 2 ^ 8 % 2 ^ 6 ≠ 0) ∧
    (decode w b = .error .host ↔
      (w.toNat / 2 ^ 14 = 3 ∨ w.toNat / 2 ^ 14 = 4 ∨ w.toNat / 2 ^ 14 = 6 ∨ w.toNat / 2 ^ 14 = 7) ∧
        w.toNat % 2 ^ 14 ≠ 0) ∧
    (decode w b = .error .init ↔ w.toNat / 2 ^ 14 = 5 ∧ w.toNat / 2 ^ 4 % 2 ^ 10 ≠ 0)

/-- Words written out from the patterns of 30_encoding.md section 5 (95_test_vectors.md V9), one or more
for each format, read as the operations they stand for. -/
def Obligations.SampleWordsReadRight : Prop :=
  decode 0b00010000000000111 ⟨none, 0⟩ = .ok (.ayAddr false 0 7) ∧
  decode 0b00010000011110111 ⟨none, 0⟩ = .ok (.ayAddrBadBit7 false 0 0b1110111) ∧
  decode 0b00010001100010000 ⟨none, 0⟩ = .ok (.ayAddrBadBit4 false 3 0) ∧
  decode 0b00001110100001110 ⟨none, 0⟩ = .ok (.ayDataR13 0x0E) ∧
  decode 0b00000110100001110 ⟨none, 0⟩ = .ok (.ayDataInactive 0xD 0x0E) ∧
  decode 0b00100000010000011 ⟨none, 0⟩ = .ok (.snLatchTone0 0 false 3) ∧
  decode 0b00100011011111111 ⟨none, 0⟩ = .ok (.snLatchVol3 3 false 0xF) ∧
  decode 0b00100011000000011 ⟨none, 0⟩ = .ok (.snDataNoise 3) ∧
  decode 0b00100010000000000 ⟨none, 0⟩ = .ok (.snDataTone2 0) ∧
  decode 0b01000000000110001 ⟨none, 0⟩ = .ok (.ggStereo 0x31) ∧
  decode 0b01100000000000000 ⟨none, 0⟩ = .ok .tick ∧
  decode 0b10000000000000000 ⟨none, 0⟩ = .ok .getSamples ∧
  decode 0b10100000000000011 ⟨some ⟨15, 3⟩, 0⟩ = .ok (.init 3 (some ⟨15, 3⟩)) ∧
  decode 0b11000000000000000 ⟨none, 0⟩ = .ok .getClockDivisor ∧
  decode 0b11100000000000000 ⟨none, 48⟩ = .ok (.getSampleRate 48)

/-- A step runs the decoded operation: it takes the oldest waiting call, forms its word from the
state's context, and is `exec` of what the word decodes to on the state without that call
(20_memory.md R52; the queue and the re-formed context are the model's, log 1, log 12). -/
def Obligations.StepRunsTheDecodedOperation : Prop :=
  ∀ (s : State) (op : HostOp) (rest : List HostOp) (i : Instr), s.pending = op :: rest →
    decode (formWord s op.word) op.beside = .ok i →
    step s = exec i { s with pending := rest }

/-- A table word placed for the next step is the one the step runs, on a chip that has been initialised
(unless the word is `INIT`), whatever context the state had; the waiting calls stay, and so does the
variant of a chip already initialised (the placing is the model's, log 13; 30_encoding.md section 1). -/
def Obligations.PlacedWordsAreRunExactly : Prop :=
  ∀ (s : State) (nbits w : Nat) (i : Instr), decodeTableWord nbits w = some i →
    ∃ s', step (s.withFetchWord nbits w) = exec i s' ∧ s'.pending = s.pending ∧
      (¬ i.isInit → s'.initialised = true) ∧
      (s.initialised = true → s'.initialised = true ∧ s'.variant = s.variant)

/-- A step on a reserved word is refused (60_exceptions.md section 1, D23; the reason's name is the
model's, log 10), and a step with no call waiting changes nothing (60_exceptions.md section 3, "Between
host calls it does nothing"; that a step finds no call is the model's, log 1). -/
def Obligations.StepRefusesReservedWordsAndIdles : Prop :=
  (∀ (s : State) (op : HostOp) (rest : List HostOp) (e : Reserved), s.pending = op :: rest →
    decode (formWord s op.word) op.beside = .error e →
    step s = .refused .reservedWord) ∧
  ∀ s : State, s.pending = [] → step s = .next s

/-- What the decoder makes of a bus write depends on the latched context of the state and on the byte
alone (30_encoding.md sections 1 and 4, D26): an AY address byte of a register number selects it, any
other is a bad address; an AY data byte goes to the register last named, or is dropped while inactive;
an SN latch byte names its own target; an SN data byte goes to the target last latched. -/
def Obligations.BusBytesDecodeInTheLatchedContext : Prop :=
  ∀ (s : State) (byte : Byte),
    (byte.toNat < 16 → decode (formWord s (HostCall.aya byte).toOp.word) ⟨none, 0⟩ =
      .ok (.ayAddr s.ay.active s.ay.addr (byte.extractLsb' 0 4))) ∧
    (16 ≤ byte.toNat → ∃ i, decode (formWord s (HostCall.aya byte).toOp.word) ⟨none, 0⟩ = .ok i ∧
      1 ≤ i.rowIndex ∧ i.rowIndex ≤ 4) ∧
    (s.ay.active = true → decode (formWord s (HostCall.ayd byte).toOp.word) ⟨none, 0⟩ =
      .ok ((ayDataWrites byte)[s.ay.addr.toNat]'(by have := s.ay.addr.isLt; omega))) ∧
    (s.ay.active = false → decode (formWord s (HostCall.ayd byte).toOp.word) ⟨none, 0⟩ =
      .ok (.ayDataInactive s.ay.addr byte)) ∧
    (128 ≤ byte.toNat → decode (formWord s (HostCall.snw byte).toOp.word) ⟨none, 0⟩ =
      .ok (snLatchOf (byte.extractLsb' 4 3) s.sn.latchCh s.sn.latchVol (byte.extractLsb' 0 4))) ∧
    (byte.toNat < 128 → decode (formWord s (HostCall.snw byte).toOp.word) ⟨none, 0⟩ =
      .ok (snDataOf (BitVec.ofNat 3 (2 * s.sn.latchCh.toNat + s.sn.latchVol.toNat))
        (byte.extractLsb' 0 7)))

/-- `AY_ADDR` sets `active` and selects the register, changing nothing else, whatever `active` was and
whatever context the word carries; a data write keeps the selection, so it lasts through any number of
them (44_register_bus.md R110). -/
def Obligations.AyAddressWriteSelects : Prop :=
  (∀ (s : State) (m : AyModel) (act : Bool) (lat r : BitVec 4),
    s.initialised = true → s.variant = .ay m →
    ∃ t, exec (.ayAddr act lat r) s = .next t ∧
      t.snapshot = ({ s with ay := { s.ay with active := true, addr := r } } : State).snapshot) ∧
  ∀ (n : Fin 16) (d : Byte) (t u : State), exec (ayDataWrites d)[n] t = .next u →
    u.ay.active = t.ay.active ∧ u.ay.addr = t.ay.addr

/-- `AY_ADDR_BAD`, its four rows: the chip is inactive, `addr` is kept (D4), one event with the whole
byte is appended (D24), and nothing else changes (44_register_bus.md section 1). -/
def Obligations.AyBadAddressDeactivates : Prop :=
  ∀ (s : State) (m : AyModel) (act : Bool) (lat : BitVec 4),
    s.initialised = true → s.variant = .ay m →
    (∀ low : BitVec 7, ∃ t, exec (.ayAddrBadBit7 act lat low) s = .next t ∧ t.snapshot =
      ({ s with ay := { s.ay with active := false },
                diag := s.diag ++ [.badAddress (BitVec.ofNat 8 (128 + low.toNat))] } : State).snapshot) ∧
    (∀ low : BitVec 6, ∃ t, exec (.ayAddrBadBit6 act lat low) s = .next t ∧ t.snapshot =
      ({ s with ay := { s.ay with active := false },
                diag := s.diag ++ [.badAddress (BitVec.ofNat 8 (64 + low.toNat))] } : State).snapshot) ∧
    (∀ low : BitVec 5, ∃ t, exec (.ayAddrBadBit5 act lat low) s = .next t ∧ t.snapshot =
      ({ s with ay := { s.ay with active := false },
                diag := s.diag ++ [.badAddress (BitVec.ofNat 8 (32 + low.toNat))] } : State).snapshot) ∧
    (∀ low : BitVec 4, ∃ t, exec (.ayAddrBadBit4 act lat low) s = .next t ∧ t.snapshot =
      ({ s with ay := { s.ay with active := false },
                diag := s.diag ++ [.badAddress (BitVec.ofNat 8 (16 + low.toNat))] } : State).snapshot)

/-- `AY_DATA_INACTIVE` completes and changes no state (44_register_bus.md section 2, "no state
changes"). -/
def Obligations.AyInactiveDataIsDropped : Prop :=
  ∀ (s : State) (m : AyModel) (lat : BitVec 4) (byte : Byte),
    s.initialised = true → s.variant = .ay m →
    ∃ t, exec (.ayDataInactive lat byte) s = .next t ∧ t.snapshot = s.snapshot

/-- `AY_DATA_R0` to `AY_DATA_R15` but R13: the whole byte is stored (D3) in that register and nothing
else changes (44_register_bus.md section 2, D2). -/
def Obligations.AyDataWriteStoresTheByte : Prop :=
  ∀ (s : State) (m : AyModel) (n : Fin 16) (d : Byte), n ≠ 13 →
    s.initialised = true → s.variant = .ay m →
    ∃ t, exec (ayDataWrites d)[n] s = .next t ∧
      t.snapshot = ({ s with ay := { s.ay with regs := s.ay.regs.set n d } } : State).snapshot

/-- `AY_DATA_R13`: the byte is stored and the envelope re-armed from its four low bits; the level
restarts at 0 or at the largest level, 15 on `AY8910` and 31 on `YM2149`; `envCnt` is not reset (D19)
and nothing else changes (43_envelope.md, re-arm; bit positions D2). -/
def Obligations.AyShapeWriteRearms : Prop :=
  ∀ (s : State) (m : AyModel) (d : Byte), s.initialised = true → s.variant = .ay m →
    ∃ t, exec (.ayDataR13 d) s = .next t ∧
      t.snapshot = ({ s with ay := { s.ay with
        regs := s.ay.regs.set 13 d
        envCont := d.getLsbD 3
        envAtt := d.getLsbD 2
        envAlt := d.getLsbD 1
        envHold := d.getLsbD 0
        envHolding := false
        envAttack := d.getLsbD 2
        envLevel := if d.getLsbD 2 then 0 else if m = .ym2149 then 31 else 15 } } : State).snapshot

/-- SN tone writes: a latch byte names the channel, selects tone and replaces the low nibble of its
period, keeping the high six bits; a data byte replaces bits [9:4] by its six low bits, keeping the low
nibble and the latch; counters, outputs and all else stay (44_register_bus.md sections 3 and 4, D13). -/
def Obligations.SnToneWritesMergeThePeriod : Prop :=
  ∀ (s : State) (m : SnModel) (c : Chan), s.initialised = true → s.variant = .sn m →
    (∀ (lch : BitVec 2) (lvol : Bool) (d : BitVec 4), ∃ t,
      exec (snToneLatches lch lvol d)[c] s = .next t ∧
      t.snapshot = ({ s with sn := { s.sn with
        latchCh := BitVec.ofNat 2 c.val
        latchVol := false
        toneReg := s.sn.toneReg.set c
          (BitVec.ofNat 10 (s.sn.toneReg[c].toNat / 16 * 16 + d.toNat)) } } : State).snapshot) ∧
    (∀ d : BitVec 7, ∃ t, exec (snToneData d)[c] s = .next t ∧
      t.snapshot = ({ s with sn := { s.sn with
        toneReg := s.sn.toneReg.set c
          (BitVec.ofNat 10 (s.sn.toneReg[c].toNat % 16 + 16 * (d.toNat % 64))) } } : State).snapshot)

/-- SN volume writes: a latch byte names the channel, selects volume and replaces its volume; a data
byte replaces it by its four low bits, keeping the latch; all else stays
(44_register_bus.md sections 3 and 4, D13). -/
def Obligations.SnVolumeWritesReplaceTheVolume : Prop :=
  ∀ (s : State) (m : SnModel) (c : Fin 4), s.initialised = true → s.variant = .sn m →
    (∀ (lch : BitVec 2) (lvol : Bool) (d : BitVec 4), ∃ t,
      exec (snVolumeLatches lch lvol d)[c] s = .next t ∧
      t.snapshot = ({ s with sn := { s.sn with
        latchCh := BitVec.ofNat 2 c.val
        latchVol := true
        vol := s.sn.vol.set c d } } : State).snapshot) ∧
    (∀ d : BitVec 7, ∃ t, exec (snVolumeData d)[c] s = .next t ∧
      t.snapshot = ({ s with sn := { s.sn with
        vol := s.sn.vol.set c (BitVec.ofNat 4 (d.toNat % 16)) } } : State).snapshot)

/-- SN noise writes: the latch byte and the data byte replace `noiseReg` by their three low bits (D8),
re-seed the register only if the parameter says so (D12), and leave the counter and the output alone;
only the latch byte writes the latch (42_noise.md section 3, 44_register_bus.md sections 3 and 4). -/
def Obligations.SnNoiseWritesReplaceTheRegister : Prop :=
  ∀ (s : State) (m : SnModel), s.initialised = true → s.variant = .sn m →
    (∀ (lch : BitVec 2) (lvol : Bool) (d : BitVec 4), ∃ t,
      exec (.snLatchNoise lch lvol d) s = .next t ∧
      t.snapshot = ({ s with sn := { s.sn with
        latchCh := 3
        latchVol := false
        noiseReg := BitVec.ofNat 3 (d.toNat % 8)
        lfsr := if Config.snNoiseWriteReseeds then 1#17 <<< (s.tapWidth - 1)
          else s.sn.lfsr } } : State).snapshot) ∧
    (∀ d : BitVec 7, ∃ t, exec (.snDataNoise d) s = .next t ∧
      t.snapshot = ({ s with sn := { s.sn with
        noiseReg := BitVec.ofNat 3 (d.toNat % 8)
        lfsr := if Config.snNoiseWriteReseeds then 1#17 <<< (s.tapWidth - 1)
          else s.sn.lfsr } } : State).snapshot)

/-- `GG_STEREO` on `SN76489_GG` writes the mask and nothing else (44_register_bus.md section 5, D16). -/
def Obligations.StereoWriteReplacesTheMask : Prop :=
  ∀ (s : State) (mask : Byte), s.initialised = true → s.variant = .sn .sn76489gg →
    ∃ t, exec (.ggStereo mask) s = .next t ∧
      t.snapshot = ({ s with sn := { s.sn with stereo := mask } } : State).snapshot

/-- The AY tone period: the even register is its low byte, the low nibble of the odd register its bits
[11:8], the odd register's high nibble is ignored (41_tone.md R84). -/
def Obligations.AyTonePeriodIsAssembled : Prop :=
  ∀ (a : AyBank) (c : Chan), (tonePeriod a c).toNat =
    (a.regs[2 * c.val]'(by omega)).toNat + 256 * ((a.regs[2 * c.val + 1]'(by omega)).toNat % 16)

/-- `TICK` on the AY family moves each tone divider: the counter counts up to the period, is reset there
and the output flips; a period of 0 makes every tick a boundary
(41_tone.md section 1; the comparison and period 0 are D5). -/
def Obligations.AyTickMovesTheTones : Prop :=
  ∀ (s : State) (m : AyModel), s.initialised = true → s.variant = .ay m →
    ∃ t, exec .tick s = .next t ∧ ∀ c : Chan,
      ((tonePeriod s.ay c).toNat ≤ s.ay.toneCnt[c].toNat + 1 →
        t.ay.toneCnt[c].toNat = 0 ∧ t.ay.toneOut[c] = !s.ay.toneOut[c]) ∧
      (s.ay.toneCnt[c].toNat + 1 < (tonePeriod s.ay c).toNat →
        t.ay.toneCnt[c].toNat = s.ay.toneCnt[c].toNat + 1 ∧ t.ay.toneOut[c] = s.ay.toneOut[c])

/-- `TICK` on the AY family moves the noise unit: it counts to `NP = regs[6][4:0]`, flips there, and
shifts the register on the boundary that returns the flip to 0
(42_noise.md section 2; the comparison is D5, the phase D7). -/
def Obligations.AyTickMovesTheNoise : Prop :=
  ∀ (s : State) (m : AyModel), s.initialised = true → s.variant = .ay m →
    ∃ t, exec .tick s = .next t ∧
      (s.ay.noiseCnt.toNat + 1 < s.ay.regs[6].toNat % 32 →
        t.ay.noiseCnt.toNat = s.ay.noiseCnt.toNat + 1 ∧ t.ay.noiseFlip = s.ay.noiseFlip ∧
        t.ay.lfsr = s.ay.lfsr ∧ t.ay.noiseOut = s.ay.noiseOut) ∧
      (s.ay.regs[6].toNat % 32 ≤ s.ay.noiseCnt.toNat + 1 →
        t.ay.noiseCnt.toNat = 0 ∧ (t.ay.noiseFlip = !s.ay.noiseFlip) ∧
        (s.ay.noiseFlip = false → t.ay.lfsr = s.ay.lfsr ∧ t.ay.noiseOut = s.ay.noiseOut) ∧
        (s.ay.noiseFlip = true →
          t.ay.lfsr.toNat = s.ay.lfsr.toNat / 2 +
            2 ^ 16 * ((s.ay.lfsr.toNat % 2 + s.ay.lfsr.toNat / 8 % 2) % 2) ∧
          (t.ay.noiseOut = true ↔ s.ay.lfsr.toNat % 2 = 0)))

/-- `AY_LFSR_SHIFT`: the output is the negated bit 0 before the shift; the register moves right by one
and bit 0 XOR bit 3 enters at bit 16; nothing else changes (42_noise.md R95). -/
def Obligations.AyShiftFeedsBackTwoTaps : Prop :=
  ∀ a : AyBank,
    (ayLfsrShift a).noiseOut = (!a.lfsr.getLsbD 0) ∧
    (ayLfsrShift a).lfsr.getLsbD 16 = (a.lfsr.getLsbD 0 ^^ a.lfsr.getLsbD 3) ∧
    (∀ i, i < 16 → (ayLfsrShift a).lfsr.getLsbD i = a.lfsr.getLsbD (i + 1)) ∧
    ayLfsrShift a = { a with noiseOut := (ayLfsrShift a).noiseOut, lfsr := (ayLfsrShift a).lfsr }

/-- `TICK` on the AY family moves the envelope: the counter advances by the step (1, or 2 on `YM2149`);
at the period it is reset and, unless holding, the level moves by one in the current direction or, at
the extreme, the terminal rule applies (43_envelope.md; the turnaround is D18). -/
def Obligations.AyTickMovesTheEnvelope : Prop :=
  ∀ (s : State) (m : AyModel), s.initialised = true → s.variant = .ay m →
    ∃ t, exec .tick s = .next t ∧
      let n := s.ay.envCnt.toNat + (if m = .ym2149 then 2 else 1)
      let EP := s.ay.regs[11].toNat + 256 * s.ay.regs[12].toNat
      let M : BitVec 5 := if m = .ym2149 then 31 else 15
      let still := t.ay.envLevel = s.ay.envLevel ∧ t.ay.envAttack = s.ay.envAttack ∧
        t.ay.envHolding = s.ay.envHolding
      let top := s.ay.envAttack = true ∧ s.ay.envLevel = M
      let bottom := s.ay.envAttack = false ∧ s.ay.envLevel = 0
      (n < EP → t.ay.envCnt.toNat = n ∧ still) ∧
      (EP ≤ n → t.ay.envCnt.toNat = 0) ∧
      (EP ≤ n → s.ay.envHolding = true → still) ∧
      (EP ≤ n → s.ay.envHolding = false → ¬ top → ¬ bottom →
        t.ay.envLevel = (if s.ay.envAttack then s.ay.envLevel + 1 else s.ay.envLevel - 1) ∧
        t.ay.envAttack = s.ay.envAttack ∧ t.ay.envHolding = false) ∧
      (EP ≤ n → s.ay.envHolding = false → (top ∨ bottom) →
        (s.ay.envCont = false →
          t.ay.envLevel = 0 ∧ t.ay.envHolding = true ∧ t.ay.envAttack = s.ay.envAttack) ∧
        (s.ay.envCont = true → s.ay.envHold = true →
          t.ay.envLevel = (if s.ay.envAlt then s.ay.envLevel ^^^ M else s.ay.envLevel) ∧
          t.ay.envHolding = true ∧ t.ay.envAttack = s.ay.envAttack) ∧
        (s.ay.envCont = true → s.ay.envHold = false → s.ay.envAlt = true →
          t.ay.envLevel = s.ay.envLevel ∧ t.ay.envHolding = false ∧
          t.ay.envAttack = !s.ay.envAttack) ∧
        (s.ay.envCont = true → s.ay.envHold = false → s.ay.envAlt = false →
          t.ay.envLevel = (if s.ay.envAtt then 0 else M) ∧ t.ay.envHolding = false ∧
          t.ay.envAttack = s.ay.envAttack))

/-- `ENV_LEVEL_STEP`: below the top a rising level goes up by one, above the bottom a falling level goes
down by one, with nothing else written; at the extreme the terminal rule is applied; and a level in 0 to
ENV_MAX stays there (43_envelope.md R106). -/
def Obligations.LevelStepsByOneOrTerminates : Prop :=
  ∀ (m : AyModel) (a : AyBank),
    (a.envAttack = true → a.envLevel ≠ envMax m →
      envLevelStep m a = { a with envLevel := a.envLevel + 1 }) ∧
    (a.envAttack = true → a.envLevel = envMax m → envLevelStep m a = envTerminal m a) ∧
    (a.envAttack = false → a.envLevel ≠ 0 →
      envLevelStep m a = { a with envLevel := a.envLevel - 1 }) ∧
    (a.envAttack = false → a.envLevel = 0 → envLevelStep m a = envTerminal m a) ∧
    (a.envLevel.toNat ≤ (envMax m).toNat → (envLevelStep m a).envLevel.toNat ≤ (envMax m).toNat)

/-- `TICK` writes unit state alone: on the AY family the register file, the bus adapter and the latched
control bits stay, on the SN family the registers, the latch and the mask; the other bank, the
diagnostics and the configuration stay (46_host_ops.md section on TICK, "no unit writes the register
file"). That the bank of the family the chip is not is held at all, and stays, is the model's (log 5;
10_state.md section 1 gives the chip no such bank). -/
def Obligations.TickWritesOnlyUnitState : Prop :=
  ∀ s t : State, exec .tick s = .next t →
    t.initialised = s.initialised ∧ t.variant = s.variant ∧ t.tapWidth = s.tapWidth ∧
    t.feedbackMask = s.feedbackMask ∧ t.diag = s.diag ∧
    t.ay.regs = s.ay.regs ∧ t.ay.active = s.ay.active ∧ t.ay.addr = s.ay.addr ∧
    t.ay.envCont = s.ay.envCont ∧ t.ay.envAtt = s.ay.envAtt ∧ t.ay.envAlt = s.ay.envAlt ∧
    t.ay.envHold = s.ay.envHold ∧
    t.sn.toneReg = s.sn.toneReg ∧ t.sn.noiseReg = s.sn.noiseReg ∧ t.sn.vol = s.sn.vol ∧
    t.sn.latchCh = s.sn.latchCh ∧ t.sn.latchVol = s.sn.latchVol ∧ t.sn.stereo = s.sn.stereo ∧
    (∀ m, s.variant = .ay m → t.sn = s.sn) ∧ (∀ m, s.variant = .sn m → t.ay = s.ay)

/-- `TICK` on the SN family moves each tone divider: a period of 0 pins the output high and keeps the
counter; otherwise a counter of 0 or 1 reloads the period and the output flips; otherwise it counts
down (41_tone.md section 2, D6). -/
def Obligations.SnTickMovesTheTones : Prop :=
  ∀ (s : State) (m : SnModel), s.initialised = true → s.variant = .sn m →
    ∃ t, exec .tick s = .next t ∧ ∀ c : Chan,
      (s.sn.toneReg[c].toNat = 0 → t.sn.toneCnt[c] = s.sn.toneCnt[c] ∧ t.sn.toneOut[c] = true) ∧
      (s.sn.toneReg[c].toNat ≠ 0 → s.sn.toneCnt[c].toNat ≤ 1 →
        t.sn.toneCnt[c] = s.sn.toneReg[c] ∧ t.sn.toneOut[c] = !s.sn.toneOut[c]) ∧
      (s.sn.toneReg[c].toNat ≠ 0 → 1 < s.sn.toneCnt[c].toNat →
        t.sn.toneCnt[c].toNat = s.sn.toneCnt[c].toNat - 1 ∧ t.sn.toneOut[c] = s.sn.toneOut[c])

/-- `TICK` on the SN family moves the noise unit: the counter counts down; at 0 or 1 it takes the reload
value (one of the three dividers, or tone period 2 when the field is 3), the output becomes bit 0, and
the register shifts right with the feedback bit entering at its top bit: the parity of the masked bits
in white mode, bit 0 in periodic mode (42_noise.md section 3, D6, D8, D9, D10). The width in force is
from 1 to 17 and the register keeps to it (the invariant `NoiseFits`). -/
def Obligations.SnTickMovesTheNoise : Prop :=
  ∀ (s : State) (m : SnModel), s.initialised = true → s.variant = .sn m → NoiseFits s →
    ∃ t, exec .tick s = .next t ∧
      (1 < s.sn.noiseCnt.toNat → t.sn.noiseCnt.toNat = s.sn.noiseCnt.toNat - 1 ∧
        t.sn.lfsr = s.sn.lfsr ∧ t.sn.noiseOut = s.sn.noiseOut) ∧
      (s.sn.noiseCnt.toNat ≤ 1 →
        (∀ k : Fin 3, s.sn.noiseReg.toNat % 4 = k.val → t.sn.noiseCnt = Config.snNoiseDiv k) ∧
        (s.sn.noiseReg.toNat % 4 = 3 → t.sn.noiseCnt.toNat = s.sn.toneReg[2].toNat) ∧
        t.sn.noiseOut = s.sn.lfsr.getLsbD 0 ∧
        (∀ i, i + 1 ≠ s.tapWidth → t.sn.lfsr.getLsbD i = s.sn.lfsr.getLsbD (i + 1)) ∧
        (s.sn.noiseReg.toNat < 4 → t.sn.lfsr.getLsbD (s.tapWidth - 1) = s.sn.lfsr.getLsbD 0) ∧
        (4 ≤ s.sn.noiseReg.toNat → (t.sn.lfsr.getLsbD (s.tapWidth - 1) = true ↔
          setBits (s.sn.lfsr &&& s.feedbackMask) % 2 = 1)))

/-- `GET_SAMPLES` on the AY family changes nothing in the chip and returns the three channel values: a
channel whose gate is closed gives 0 (D17), an open one its entry of the envelope table or of the volume
table (45_mixer.md section 1; where the value is returned is log 2). -/
def Obligations.AySampleIsTheGatedAmplitude : Prop :=
  ∀ (s : State) (m : AyModel), s.initialised = true → s.variant = .ay m →
    let sample (c : Chan) : Int :=
      if (s.ay.regs[7].getLsbD c.val = true ∨ s.ay.toneOut[c] = true) ∧
          (s.ay.regs[7].getLsbD (3 + c.val) = true ∨ s.ay.noiseOut = true) then
        if (s.ay.regs[8 + c.val]'(by omega)).getLsbD 4 = true then envTable m c s.ay.envLevel
        else volTable m c (BitVec.ofNat 4 ((s.ay.regs[8 + c.val]'(by omega)).toNat % 16))
      else 0
    ∃ t, exec .getSamples s = .next t ∧ t.snapshot = s.snapshot ∧
      t.result = some (.mono (sample 0) (sample 1) (sample 2))

/-- The AY gate: `(T_c | toneOut[c]) & (N_c | noiseOut)`; with both mixer bits set it is open, with both
clear it is the AND of the two outputs; the noise output is shared by the channels
(45_mixer.md R150). -/
def Obligations.AyGateFollowsTheFormula : Prop :=
  ∀ (a : AyBank) (c : Chan),
    gate a c = ((a.regs[7].getLsbD c.val || a.toneOut[c]) &&
      (a.regs[7].getLsbD (3 + c.val) || a.noiseOut)) ∧
    (a.regs[7].getLsbD c.val = true → a.regs[7].getLsbD (3 + c.val) = true → gate a c = true) ∧
    (a.regs[7].getLsbD c.val = false → a.regs[7].getLsbD (3 + c.val) = false →
      gate a c = (a.toneOut[c] && a.noiseOut))

/-- `GET_SAMPLES` on the SN family changes nothing in the chip and returns the exact sums over the
channels each side enables (D16, D17) of the table entry of the channel's volume, or of the mute value
while its output is low (45_mixer.md section 2, D15; where the value is returned is log 2). -/
def Obligations.SnSampleIsTheStereoSum : Prop :=
  ∀ (s : State) (m : SnModel), s.initialised = true → s.variant = .sn m →
    let amp (c : Chan) : Int :=
      if s.sn.toneOut[c] = true then Config.snVolTable (s.sn.vol[c.val]'(by omega)) else Config.snMute
    let noise : Int :=
      if s.sn.noiseOut = true then Config.snVolTable s.sn.vol[3] else Config.snMute
    let side (base : Nat) : Int :=
      (if s.sn.stereo.getLsbD base = true then amp 0 else 0) +
      (if s.sn.stereo.getLsbD (base + 1) = true then amp 1 else 0) +
      (if s.sn.stereo.getLsbD (base + 2) = true then amp 2 else 0) +
      (if s.sn.stereo.getLsbD (base + 3) = true then noise else 0)
    ∃ t, exec .getSamples s = .next t ∧ t.snapshot = s.snapshot ∧
      t.result = some (.stereo (side 4) (side 0))

/-- A sample query is a pure read: it changes nothing in the chip, and a second one with nothing between
returns the same (45_mixer.md section 3). -/
def Obligations.SampleQueryIsPure : Prop :=
  ∀ s t : State, exec .getSamples s = .next t →
    t.snapshot = s.snapshot ∧ exec .getSamples t = .next t

/-- `INIT` with a variant's code, and on the SN family a legal or no noise-config, completes in the reset
state of that variant, from any state (70_reset_and_hazards.md section 1 and the table of 10_state.md
section 8: D4, D11, D14, D16, D20, D21, D33; the waiting calls are the host's, log 1; what the bank of
the other family holds is log 5). -/
def Obligations.InitResetsEverything : Prop :=
  ∀ (s : State) (noise : Option NoiseConfig) (v : BitVec 4) (var : Variant) (W M : Nat),
    (v = 0 ∧ var = .ay .ay8910 ∧ W = 16 ∧ M = 9 ∨ v = 1 ∧ var = .ay .ym2149 ∧ W = 16 ∧ M = 9 ∨
      (v = 2 ∧ var = .sn .sn76489 ∨ v = 3 ∧ var = .sn .sn76489gg) ∧
        (noise = none ∧ W = 16 ∧ M = 9 ∨
          noise = some ⟨W, M⟩ ∧ 1 ≤ W ∧ W ≤ 17 ∧ M < 2 ^ W)) →
    ∃ t, exec (.init v noise) s = .next t ∧
      t.initialised = true ∧ t.variant = var ∧ t.tapWidth = W ∧ t.feedbackMask.toNat = M ∧
      t.diag = [] ∧ t.result = none ∧ t.pending = s.pending ∧
      t.ay.regs = Vector.replicate 16 0 ∧ t.ay.active = false ∧ t.ay.addr = 0 ∧
      t.ay.toneCnt = Vector.replicate 3 0 ∧ t.ay.toneOut = Vector.replicate 3 false ∧
      t.ay.noiseCnt = 0 ∧ t.ay.noiseFlip = false ∧ t.ay.lfsr = 0x00001 ∧ t.ay.noiseOut = false ∧
      t.ay.envCnt = 0 ∧ t.ay.envLevel = 0 ∧ t.ay.envAttack = false ∧ t.ay.envHolding = false ∧
      t.ay.envCont = false ∧ t.ay.envAtt = false ∧ t.ay.envAlt = false ∧ t.ay.envHold = false ∧
      t.sn.toneReg = Vector.replicate 3 0 ∧ t.sn.noiseReg = 0 ∧ t.sn.vol = Vector.replicate 4 0 ∧
      t.sn.latchCh = 0 ∧ t.sn.latchVol = false ∧ t.sn.stereo = 0xFF ∧
      t.sn.toneCnt = Vector.replicate 3 0 ∧ t.sn.toneOut = Vector.replicate 3 false ∧
      t.sn.noiseCnt = 0 ∧ t.sn.lfsr.toNat = 2 ^ (W - 1) ∧ t.sn.noiseOut = false

/-- `INIT` is refused for a code that names no variant, and on the SN family for a noise-config whose
width is outside 1 to 17 or whose mask does not fit the width (60_exceptions.md section 1,
70_reset_and_hazards.md section 1, D23, D33; the reasons' names are the model's, log 10). -/
def Obligations.InitRefusesBadOperands : Prop :=
  ∀ (s : State) (v : BitVec 4),
    (∀ noise, 4 ≤ v.toNat → exec (.init v noise) s = .refused .unknownVariant) ∧
    (∀ W M, v.toNat = 2 ∨ v.toNat = 3 → (W < 1 ∨ 17 < W ∨ 2 ^ W ≤ M) →
      exec (.init v (some ⟨W, M⟩)) s = .refused .badNoiseConfig)

/-- `GET_CLOCK_DIVISOR` returns 8 on the AY family and 16 on the SN family and changes nothing in the
chip (46_host_ops.md R159; where the value is returned is log 2). -/
def Obligations.ClockDivisorIsTheFamilys : Prop :=
  ∀ s : State, s.initialised = true →
    ∃ t, exec .getClockDivisor s = .next t ∧ t.snapshot = s.snapshot ∧
      ((∃ m, s.variant = .ay m) → t.result = some (.divisor 8)) ∧
      ((∃ m, s.variant = .sn m) → t.result = some (.divisor 16))

/-- `GET_SAMPLE_RATE` returns the exact rational `clockHz / CLOCK_DIV` and changes nothing in the chip
(46_host_ops.md, sample-rate query, D31; where the value is returned is log 2). -/
def Obligations.SampleRateIsTheExactQuotient : Prop :=
  ∀ (s : State) (clockHz : Nat), s.initialised = true →
    ∃ (t : State) (q : Rat), exec (.getSampleRate clockHz) s = .next t ∧ t.snapshot = s.snapshot ∧
      t.result = some (.rate q) ∧
      ((∃ m, s.variant = .ay m) → q * 8 = (clockHz : Rat)) ∧
      ((∃ m, s.variant = .sn m) → q * 16 = (clockHz : Rat))

/-- Before the first `INIT` every other operation is refused (60_exceptions.md section 1, D23; the
reason's name is the model's, log 10). -/
def Obligations.NothingRunsBeforeInit : Prop :=
  ∀ (i : Instr) (s : State), s.initialised = false → ¬ i.isInit →
    exec i s = .refused .notInitialised

/-- An operation of the other family is refused, and the stereo mask write on every variant but
`SN76489_GG` (60_exceptions.md section 1, D23; the reasons' names are the model's, log 10). -/
def Obligations.OtherChipsOperationsAreRefused : Prop :=
  ∀ (i : Instr) (s : State), s.initialised = true →
    (∀ m, s.variant = .sn m → i.isAyBus → exec i s = .refused .wrongFamily) ∧
    (∀ m, s.variant = .ay m → i.isSnBus → exec i s = .refused .wrongFamily) ∧
    (∀ mask, s.variant ≠ .sn .sn76489gg → i = .ggStereo mask → exec i s = .refused .notGameGear)

/-- Only `INIT` chooses the variant and the noise-config, nothing un-initialises the chip, and no other
operation touches the bank of the family the chip is not (00_scope.md section 4, "no operation changes
them"; 30_encoding.md section 5 on families; log 5). -/
def Obligations.OnlyInitChangesTheConfiguration : Prop :=
  ∀ (i : Instr) (s t : State), exec i s = .next t → ¬ i.isInit →
    t.initialised = s.initialised ∧ t.variant = s.variant ∧ t.tapWidth = s.tapWidth ∧
    t.feedbackMask = s.feedbackMask ∧
    (∀ m, s.variant = .ay m → t.sn = s.sn) ∧
    (∀ m, s.variant = .sn m → t.ay = s.ay ∧ t.diag = s.diag)

/-- A register changes only by a write to that register: an AY register by the data write of its number,
an SN period, volume or noise register by the latch or data byte of its name, the stereo mask by the
stereo write (10_state.md sections 2 to 5; `INIT` resets them all). -/
def Obligations.RegistersChangeOnlyByTheirWrites : Prop :=
  ∀ (i : Instr) (s t : State), exec i s = .next t → ¬ i.isInit →
    (∀ n : Fin 16, t.ay.regs[n] ≠ s.ay.regs[n] →
      ∃ d, i = (ayDataWrites d)[n] ∧ t.ay.regs[n] = d) ∧
    (∀ c : Chan, t.sn.toneReg[c] ≠ s.sn.toneReg[c] →
      (∃ lch lvol d, i = (snToneLatches lch lvol d)[c]) ∨ ∃ d, i = (snToneData d)[c]) ∧
    (∀ c : Fin 4, t.sn.vol[c] ≠ s.sn.vol[c] →
      (∃ lch lvol d, i = (snVolumeLatches lch lvol d)[c]) ∨ ∃ d, i = (snVolumeData d)[c]) ∧
    (t.sn.noiseReg ≠ s.sn.noiseReg →
      (∃ lch lvol d, i = .snLatchNoise lch lvol d) ∨ ∃ d, i = .snDataNoise d) ∧
    (t.sn.stereo ≠ s.sn.stereo → ∃ mask, i = .ggStereo mask ∧ t.sn.stereo = mask)

/-- Counters and unit outputs change only on `TICK` (and `INIT`): no bus write and no query touches
them, but for the envelope's re-arm on a register-0xD write and the optional re-seed of the SN shift
register on a noise write (70_reset_and_hazards.md section 2; 41_tone.md section 3; D12, D19). -/
def Obligations.UnitsMoveOnlyOnTick : Prop :=
  ∀ (i : Instr) (s t : State), exec i s = .next t → ¬ i.isInit → i ≠ .tick →
    t.ay.toneCnt = s.ay.toneCnt ∧ t.ay.toneOut = s.ay.toneOut ∧ t.ay.noiseCnt = s.ay.noiseCnt ∧
    t.ay.noiseFlip = s.ay.noiseFlip ∧ t.ay.lfsr = s.ay.lfsr ∧ t.ay.noiseOut = s.ay.noiseOut ∧
    t.ay.envCnt = s.ay.envCnt ∧
    ((∀ d, i ≠ .ayDataR13 d) → t.ay.envLevel = s.ay.envLevel ∧ t.ay.envAttack = s.ay.envAttack ∧
      t.ay.envHolding = s.ay.envHolding) ∧
    t.sn.toneCnt = s.sn.toneCnt ∧ t.sn.toneOut = s.sn.toneOut ∧ t.sn.noiseCnt = s.sn.noiseCnt ∧
    t.sn.noiseOut = s.sn.noiseOut ∧
    (t.sn.lfsr = s.sn.lfsr ∨ (Config.snNoiseWriteReseeds = true ∧
      ((∃ lch lvol d, i = .snLatchNoise lch lvol d) ∨ ∃ d, i = .snDataNoise d)))

/-- The freeze flag: while it is set no operation but a register-0xD write (or `INIT`, a full reset)
changes the level or clears the flag, and only the terminal rule sets it: a `TICK` at a boundary, with
the level at the extreme of its direction and an arm of the rule that holds (10_state.md R33). -/
def Obligations.HoldingFreezesTheLevel : Prop :=
  ∀ (i : Instr) (s t : State) (m : AyModel), exec i s = .next t → ¬ i.isInit →
    s.variant = .ay m →
    (s.ay.envHolding = true → (∀ d, i ≠ .ayDataR13 d) →
      t.ay.envHolding = true ∧ t.ay.envLevel = s.ay.envLevel) ∧
    (s.ay.envHolding = false → t.ay.envHolding = true →
      i = .tick ∧ (envPeriod s.ay).toNat ≤ s.ay.envCnt.toNat + envStep m ∧
      s.ay.envLevel = (if s.ay.envAttack then envMax m else 0) ∧
      (s.ay.envCont = false ∨ s.ay.envHold = true))

/-- Every operation leaves the waiting calls alone, and only the three queries return a value
(00_scope.md section 5, on outcomes; the fields are the model's, log 1, log 2). -/
def Obligations.OnlyQueriesReturnValues : Prop :=
  ∀ (i : Instr) (s t : State), exec i s = .next t →
    t.pending = s.pending ∧
    (t.result ≠ none ↔ i = .getSamples ∨ i = .getClockDivisor ∨ ∃ hz, i = .getSampleRate hz)

/-- Diagnostics are advisory: two machines that differ only in `diag` run alike for ever, refusals and
returned values included (60_exceptions.md section 1, on the diagnostic event, D24). -/
def Obligations.DiagnosticsNeverMatter : Prop :=
  ∀ (k : Nat) (s t : State), SameButDiag s t →
    AlikeButDiag (Host.Core.run core k s) (Host.Core.run core k t)

/-- The order of the unit steps within a tick does not matter: any two of them commute
(46_host_ops.md, on the order of the unit steps, D32). -/
def Obligations.UnitStepsCommute : Prop :=
  (∀ (a : AyBank) (m : AyModel) (c e : Chan),
    (c ≠ e → ayToneTick c (ayToneTick e a) = ayToneTick e (ayToneTick c a)) ∧
    ayToneTick c (ayNoiseTick a) = ayNoiseTick (ayToneTick c a) ∧
    ayToneTick c (envTick m a) = envTick m (ayToneTick c a) ∧
    ayNoiseTick (envTick m a) = envTick m (ayNoiseTick a)) ∧
  (∀ (b : SnBank) (div : Fin 3 → BitVec 16) (W : Nat) (mask : BitVec 17) (c e : Chan),
    (c ≠ e → snToneTick c (snToneTick e b) = snToneTick e (snToneTick c b)) ∧
    snToneTick c (snNoiseTick div W mask b) = snNoiseTick div W mask (snToneTick c b))

/-- Every step keeps the invariant: the noise-config legal and the SN register within its width
(70_reset_and_hazards.md section 1, 10_state.md section 6), the AY register nonzero, the latched control
bits those of register 0xD and the level within ENV_MAX (10_state.md R43 in section 7), the direction
that of the attack bit but under the alternate rule and the level frozen only at an extreme
(43_envelope.md R107), the mask 0xFF but on `SN76489_GG` (10_state.md R37 in section 5), and every event
a bad address (60_exceptions.md R165 in section 1). That the other family's bank is held and stands at
its reset value, and with it the width 16 and the mask 9 of an AY chip, is the model's choice (log 5). -/
def Obligations.EveryStepKeepsTheInvariant : Prop :=
  ∀ s t : State, Inv s → step s = .next t → Inv t

/-- At reset the invariant holds and the chip awaits its first `INIT`: it is not initialised, no call
waits, nothing has been returned, and a step with one call waiting completes only if that call is an
`INIT` (10_state.md sections 1 and 7, D23; log 1, log 2, log 3; the invariant's clause on the other
family's bank is log 5). -/
def Obligations.ResetIsSoundAndAwaitsInit : Prop :=
  Inv State.reset ∧ State.reset.initialised = false ∧ State.reset.pending = [] ∧
    State.reset.result = none ∧
    ∀ w : HostOp, ∀ t : State, step { State.reset with pending := [w] } = .next t →
      t.initialised = true ∧ ∃ v noise, decode w.word w.beside = .ok (.init v noise)

/-- After a `TICK` on the AY family every counter is below its period, or 0 where the period is 0
(10_state.md section 7; the comparison is D5). -/
def Obligations.AyCountersStayBelowTheirPeriods : Prop :=
  ∀ (s t : State) (m : AyModel), exec .tick s = .next t → s.variant = .ay m →
    (∀ c : Chan, t.ay.toneCnt[c].toNat < max 1 (tonePeriod t.ay c).toNat) ∧
    t.ay.noiseCnt.toNat < max 1 (noisePeriod t.ay).toNat ∧
    t.ay.envCnt.toNat < max 1 (envPeriod t.ay).toNat

/-- An AY tone with a constant period p of at least 1, from counter 0, flips exactly once per p ticks:
after k ticks the counter is k mod p and the output has flipped k / p times
(41_tone.md section 1, derived properties; D5). -/
def Obligations.AyToneFlipsOncePerPeriod : Prop :=
  ∀ (k : Nat) (s : State) (m : AyModel) (c : Chan), s.initialised = true → s.variant = .ay m →
    s.ay.toneCnt[c] = 0 → 1 ≤ (tonePeriod s.ay c).toNat →
    ∃ t, tickTimes k s = .next t ∧
      t.ay.toneCnt[c].toNat = k % (tonePeriod s.ay c).toNat ∧
      t.ay.toneOut[c] = (s.ay.toneOut[c] ^^ decide (k / (tonePeriod s.ay c).toNat % 2 = 1))

/-- An SN tone with a constant period p of at least 1, from a fresh reload, flips exactly once per p
ticks; with a period of 0 it is high after any number of ticks and its counter is unchanged
(41_tone.md section 2, derived properties; D6). -/
def Obligations.SnToneFlipsOncePerPeriod : Prop :=
  ∀ (k : Nat) (s : State) (m : SnModel) (c : Chan), s.initialised = true → s.variant = .sn m →
    (1 ≤ s.sn.toneReg[c].toNat → s.sn.toneCnt[c] = s.sn.toneReg[c] →
      ∃ t, tickTimes k s = .next t ∧
        t.sn.toneCnt[c].toNat = s.sn.toneReg[c].toNat - k % s.sn.toneReg[c].toNat ∧
        t.sn.toneOut[c] = (s.sn.toneOut[c] ^^ decide (k / s.sn.toneReg[c].toNat % 2 = 1))) ∧
    (s.sn.toneReg[c] = 0 →
      ∃ t, tickTimes (k + 1) s = .next t ∧ t.sn.toneOut[c] = true ∧
        t.sn.toneCnt[c] = s.sn.toneCnt[c])

/-- With a constant noise period p the AY register shifts once every 2 * max(1, p) ticks, and the flip
marks the half (42_noise.md section 2, derived properties; D5, D7). -/
def Obligations.AyNoiseShiftsEveryTwoPeriods : Prop :=
  ∀ (k : Nat) (s : State) (m : AyModel), s.initialised = true → s.variant = .ay m →
    s.ay.noiseCnt = 0 → s.ay.noiseFlip = false →
    ∃ t, tickTimes k s = .next t ∧
      t.ay.lfsr = ayShifted^[k / (2 * max 1 (noisePeriod s.ay).toNat)] s.ay.lfsr ∧
      t.ay.noiseFlip = decide (k / max 1 (noisePeriod s.ay).toNat % 2 = 1)

/-- The AY shift is invertible, so 0 is reached only from 0 (42_noise.md section 2, derived
properties). -/
def Obligations.AyShiftIsInvertible : Prop :=
  Function.Bijective ayShifted ∧ ∀ x, ayShifted x = 0 ↔ x = 0

/-- The SN shift keeps a zero register at zero in both modes, with the output 0; from a nonzero register
within its width it never gives zero in periodic mode, nor in white mode when the mask has bit 0
(42_noise.md section 3, on the all-zero register; D10). -/
def Obligations.SnZeroRegisterIsAbsorbing : Prop :=
  ∀ (W : Nat) (mask x : BitVec 17) (white : Bool), 1 ≤ W → W ≤ 17 →
    snShifted white W mask 0 = 0 ∧ snNoiseOutput 0 = false ∧
    (x ≠ 0 → x.toNat < 2 ^ W → (white = false ∨ mask.getLsbD 0 = true) →
      snShifted white W mask x ≠ 0)

/-- The envelope shapes: after a register-0xD write, with a period that makes every tick a boundary, the
level after k ticks is that of the table of the sixteen control codes, for either variant
(43_envelope.md, table of control codes; D18). -/
def Obligations.EnvelopeFollowsItsShape : Prop :=
  ∀ (k : Nat) (s t : State) (m : AyModel) (d : Byte), s.variant = .ay m →
    exec (.ayDataR13 d) s = .next t → (envPeriod s.ay).toNat ≤ envStep m →
    ∃ u, tickTimes k t = .next u ∧
      u.ay.envLevel.toNat =
        shapeLevel (envMax m).toNat (d.getLsbD 3) (d.getLsbD 2) (d.getLsbD 1) (d.getLsbD 0) k

/-- Property P1: every AY table is non-decreasing in its index, for either variant and every channel
(40_amplitude_table.md R79). -/
def Obligations.AyTablesNeverDecrease : Prop :=
  ∀ (m : AyModel) (c : Chan),
    (∀ i j : BitVec 4, i.toNat < j.toNat → volTable m c i ≤ volTable m c j) ∧
    (∀ i j : BitVec 5, i.toNat < j.toNat → j.toNat ≤ (envMax m).toNat →
      envTable m c i ≤ envTable m c j)

/-- Property P2: entry 0 of an AY table is 0 when its profile has `ZERO_IS_OFF`
(40_amplitude_table.md section 2); and channels of equal loads have equal tables (same section). Which
profile builds which table is D34. -/
def Obligations.AyTablesFollowProfileAndLoad : Prop :=
  (∀ c : Chan,
    (Config.zeroIsOff .ay8910 = true → volTable .ay8910 c 0 = 0 ∧ envTable .ay8910 c 0 = 0) ∧
    (Config.zeroIsOff .ym2149Tone = true → volTable .ym2149 c 0 = 0) ∧
    (Config.zeroIsOff .ym2149Envelope = true → envTable .ym2149 c 0 = 0)) ∧
  ∀ (m : AyModel) (c e : Chan), loadResistance c = loadResistance e →
    volTable m c = volTable m e ∧ envTable m c = envTable m e

/-- A sequence of host calls that keeps the contract runs to its end, and one that breaks it is refused:
from any state, whatever has gone before (46_host_ops.md, "Any interleaving of operations is legal after
`INIT`"; 60_exceptions.md section 1, D23). -/
def Obligations.ContractDecidesWhetherARunIsRefused : Prop :=
  ∀ (s : State) (calls : List HostCall),
    (keepsContract s.chip calls = true →
      ∃ t, Host.Core.run core calls.length (s.withCalls calls) = .next t ∧ t.pending = []) ∧
    (keepsContract s.chip calls = false →
      ∃ r, Host.Core.run core calls.length (s.withCalls calls) = .refused r)

/-- A snapshot restored, on whatever chip, continues exactly as the saved state would: any sequence of
calls gives the same outcome from the first step on (10_state.md section 7, on snapshot and restore;
what a snapshot leaves out is log 19). -/
def Obligations.RestoredSnapshotContinuesAsSaved : Prop :=
  ∀ (saved other : State) (calls : List HostCall) (k : Nat), calls ≠ [] →
    Host.Core.run core (k + 1) ((State.restore saved.snapshot other).withCalls calls) =
      Host.Core.run core (k + 1) (saved.withCalls calls)

/-- Register writes are idempotent but for register 0xD, whose every write re-arms: the same AY data
write, valid address or SN byte twice in a row leaves the chip as once
(20_memory.md section 2, on idempotency; log 21 on a repeated bad address). -/
def Obligations.RepeatedWritesLeaveTheSameState : Prop :=
  ∀ (i : Instr) (s t : State), exec i s = .next t →
    i.rowIndex = 0 ∨ (5 ≤ i.rowIndex ∧ i.rowIndex ≤ 38) → i.rowIndex ≠ 19 → exec i t = .next t
end

