-- ==== Sys2Proof/Laws/Bits.lean ====
section
/-! SUPPORT. What the decoder's fields are as numbers, and how a field of a word given as a number
reads. -/

namespace Sys2Proof

theorem toNat_field (w : Word) (lo len : Nat) :
    (field w lo len).toNat = w.toNat / 2 ^ lo % 2 ^ len := by
  simp [field, Nat.shiftRight_eq_div_pow]

theorem flag_eq (w : Word) (i : Nat) : flag w i = decide (w.toNat / 2 ^ i % 2 = 1) := by
  simp [flag, BitVec.getLsbD, Nat.testBit_eq_decide_div_mod_eq]

theorem field_eq_iff (w : Word) (lo len : Nat) (x : BitVec len) :
    field w lo len = x ↔ w.toNat / 2 ^ lo % 2 ^ len = x.toNat := by
  rw [← toNat_field, BitVec.toNat_inj]

theorem toNat_ofNat_word {n : Nat} (h : n < 2 ^ 17) : (BitVec.ofNat 17 n).toNat = n := by
  simpa using Nat.mod_eq_of_lt h

end Sys2Proof
end

