-- ==== Sys2Proof/Laws/Guards.lean ====
section
/-! SUPPORT. The guards of the operations: when an operation goes on, and what it answers when not. -/

-- One elaboration thread: a thread for each small theorem can exceed the checker's memory limit.
set_option Elab.async false

namespace Sys2Proof.Machine

@[simp] theorem returning_eq_next {o : Option Output} {s t : State} :
    returning o s = .next t ↔ t = { s with result := o } := by
  simp [returning, eq_comm]

theorem whenInitialised_of {s : State} {k : Answer} (h : s.initialised = true) :
    whenInitialised s k = k := by simp [whenInitialised, h]

theorem whenInitialised_refuses {s : State} {k : Answer} (h : s.initialised = false) :
    whenInitialised s k = .refused .notInitialised := by simp [whenInitialised, h]

theorem whenInitialised_eq_next {s t : State} {k : Answer} :
    whenInitialised s k = .next t ↔ s.initialised = true ∧ k = .next t := by
  unfold whenInitialised; split <;> simp_all

theorem whenAy_of {s : State} {k : AyModel → Answer} {m : AyModel} (h : s.initialised = true)
    (hv : s.variant = .ay m) : whenAy s k = k m := by simp [whenAy, whenInitialised_of h, hv]

theorem whenAy_refuses_sn {s : State} {k : AyModel → Answer} {m : SnModel}
    (h : s.initialised = true) (hv : s.variant = .sn m) : whenAy s k = .refused .wrongFamily := by
  simp [whenAy, whenInitialised_of h, hv]

theorem whenAy_eq_next {s t : State} {k : AyModel → Answer} :
    whenAy s k = .next t ↔ s.initialised = true ∧ ∃ m, s.variant = .ay m ∧ k m = .next t := by
  rw [whenAy, whenInitialised_eq_next]
  cases s.variant <;> simp

theorem whenSn_of {s : State} {k : Answer} {m : SnModel} (h : s.initialised = true)
    (hv : s.variant = .sn m) : whenSn s k = k := by simp [whenSn, whenInitialised_of h, hv]

theorem whenSn_refuses_ay {s : State} {k : Answer} {m : AyModel} (h : s.initialised = true)
    (hv : s.variant = .ay m) : whenSn s k = .refused .wrongFamily := by
  simp [whenSn, whenInitialised_of h, hv]

theorem whenSn_eq_next {s t : State} {k : Answer} :
    whenSn s k = .next t ↔ s.initialised = true ∧ (∃ m, s.variant = .sn m) ∧ k = .next t := by
  rw [whenSn, whenInitialised_eq_next]
  cases s.variant <;> simp

theorem whenGameGear_of {s : State} {k : Answer} (h : s.initialised = true)
    (hv : s.variant = .sn .sn76489gg) : whenGameGear s k = k := by
  simp [whenGameGear, whenInitialised_of h, hv]

theorem whenGameGear_eq_next {s t : State} {k : Answer} :
    whenGameGear s k = .next t ↔
      s.initialised = true ∧ s.variant = .sn .sn76489gg ∧ k = .next t := by
  rw [whenGameGear, whenInitialised_eq_next]
  rcases s.variant with m | m <;> cases m <;> simp

end Sys2Proof.Machine
end

