-- ==== Sys2Proof/Laws/State.lean ====
section
/-! SUPPORT. One lemma per field per update: what each named update of the state and of the banks leaves
in each field. All are true by definition. -/

-- One elaboration thread: a thread for each small theorem can exceed the checker's memory limit.
set_option Elab.async false

namespace Sys2Proof.Machine

section
variable (s : State) (a : AyBank)

@[simp] theorem withAy_initialised : (s.withAy a).initialised = s.initialised := rfl
@[simp] theorem withAy_variant : (s.withAy a).variant = s.variant := rfl
@[simp] theorem withAy_tapWidth : (s.withAy a).tapWidth = s.tapWidth := rfl
@[simp] theorem withAy_feedbackMask : (s.withAy a).feedbackMask = s.feedbackMask := rfl
@[simp] theorem withAy_ay : (s.withAy a).ay = a := rfl
@[simp] theorem withAy_sn : (s.withAy a).sn = s.sn := rfl
@[simp] theorem withAy_diag : (s.withAy a).diag = s.diag := rfl
@[simp] theorem withAy_result : (s.withAy a).result = s.result := rfl
@[simp] theorem withAy_pending : (s.withAy a).pending = s.pending := rfl

end

section
variable (s : State) (b : SnBank)

@[simp] theorem withSn_initialised : (s.withSn b).initialised = s.initialised := rfl
@[simp] theorem withSn_variant : (s.withSn b).variant = s.variant := rfl
@[simp] theorem withSn_tapWidth : (s.withSn b).tapWidth = s.tapWidth := rfl
@[simp] theorem withSn_feedbackMask : (s.withSn b).feedbackMask = s.feedbackMask := rfl
@[simp] theorem withSn_ay : (s.withSn b).ay = s.ay := rfl
@[simp] theorem withSn_sn : (s.withSn b).sn = b := rfl
@[simp] theorem withSn_diag : (s.withSn b).diag = s.diag := rfl
@[simp] theorem withSn_result : (s.withSn b).result = s.result := rfl
@[simp] theorem withSn_pending : (s.withSn b).pending = s.pending := rfl

end

section
variable (s : State)

@[simp] theorem snapshot_initialised : (s.snapshot).initialised = s.initialised := rfl
@[simp] theorem snapshot_variant : (s.snapshot).variant = s.variant := rfl
@[simp] theorem snapshot_tapWidth : (s.snapshot).tapWidth = s.tapWidth := rfl
@[simp] theorem snapshot_feedbackMask : (s.snapshot).feedbackMask = s.feedbackMask := rfl
@[simp] theorem snapshot_ay : (s.snapshot).ay = s.ay := rfl
@[simp] theorem snapshot_sn : (s.snapshot).sn = s.sn := rfl
@[simp] theorem snapshot_diag : (s.snapshot).diag = s.diag := rfl
@[simp] theorem snapshot_result : (s.snapshot).result = none := rfl
@[simp] theorem snapshot_pending : (s.snapshot).pending = [] := rfl

end

section
variable (p s : State)

@[simp] theorem restore_initialised : (State.restore p s).initialised = p.initialised := rfl
@[simp] theorem restore_variant : (State.restore p s).variant = p.variant := rfl
@[simp] theorem restore_tapWidth : (State.restore p s).tapWidth = p.tapWidth := rfl
@[simp] theorem restore_feedbackMask : (State.restore p s).feedbackMask = p.feedbackMask := rfl
@[simp] theorem restore_ay : (State.restore p s).ay = p.ay := rfl
@[simp] theorem restore_sn : (State.restore p s).sn = p.sn := rfl
@[simp] theorem restore_diag : (State.restore p s).diag = p.diag := rfl
@[simp] theorem restore_result : (State.restore p s).result = s.result := rfl
@[simp] theorem restore_pending : (State.restore p s).pending = s.pending := rfl

end

section
variable (s : State) (calls : List HostCall)

@[simp] theorem withCalls_initialised : (s.withCalls calls).initialised = s.initialised := rfl
@[simp] theorem withCalls_variant : (s.withCalls calls).variant = s.variant := rfl
@[simp] theorem withCalls_tapWidth : (s.withCalls calls).tapWidth = s.tapWidth := rfl
@[simp] theorem withCalls_feedbackMask : (s.withCalls calls).feedbackMask = s.feedbackMask := rfl
@[simp] theorem withCalls_ay : (s.withCalls calls).ay = s.ay := rfl
@[simp] theorem withCalls_sn : (s.withCalls calls).sn = s.sn := rfl
@[simp] theorem withCalls_diag : (s.withCalls calls).diag = s.diag := rfl
@[simp] theorem withCalls_result : (s.withCalls calls).result = s.result := rfl
@[simp] theorem withCalls_pending : (s.withCalls calls).pending = calls.map HostCall.toOp := rfl

end

section
variable (v : Variant) (c : NoiseConfig) (l : List HostOp)

@[simp] theorem initialisedAs_initialised : (initialisedAs v c l).initialised = true := rfl
@[simp] theorem initialisedAs_variant : (initialisedAs v c l).variant = v := rfl
@[simp] theorem initialisedAs_tapWidth : (initialisedAs v c l).tapWidth = c.width := rfl
@[simp] theorem initialisedAs_feedbackMask : (initialisedAs v c l).feedbackMask = BitVec.ofNat 17 c.mask := rfl
@[simp] theorem initialisedAs_ay : (initialisedAs v c l).ay = ayReset := rfl
@[simp] theorem initialisedAs_sn : (initialisedAs v c l).sn = snReset c.width := rfl
@[simp] theorem initialisedAs_diag : (initialisedAs v c l).diag = [] := rfl
@[simp] theorem initialisedAs_result : (initialisedAs v c l).result = none := rfl
@[simp] theorem initialisedAs_pending : (initialisedAs v c l).pending = l := rfl

end

section
variable (n : Fin 16) (d : Byte) (a : AyBank)

@[simp] theorem setAyReg_regs : (setAyReg n d a).regs = a.regs.set n d := rfl
@[simp] theorem setAyReg_active : (setAyReg n d a).active = a.active := rfl
@[simp] theorem setAyReg_addr : (setAyReg n d a).addr = a.addr := rfl
@[simp] theorem setAyReg_toneCnt : (setAyReg n d a).toneCnt = a.toneCnt := rfl
@[simp] theorem setAyReg_toneOut : (setAyReg n d a).toneOut = a.toneOut := rfl
@[simp] theorem setAyReg_noiseCnt : (setAyReg n d a).noiseCnt = a.noiseCnt := rfl
@[simp] theorem setAyReg_noiseFlip : (setAyReg n d a).noiseFlip = a.noiseFlip := rfl
@[simp] theorem setAyReg_lfsr : (setAyReg n d a).lfsr = a.lfsr := rfl
@[simp] theorem setAyReg_noiseOut : (setAyReg n d a).noiseOut = a.noiseOut := rfl
@[simp] theorem setAyReg_envCnt : (setAyReg n d a).envCnt = a.envCnt := rfl
@[simp] theorem setAyReg_envLevel : (setAyReg n d a).envLevel = a.envLevel := rfl
@[simp] theorem setAyReg_envAttack : (setAyReg n d a).envAttack = a.envAttack := rfl
@[simp] theorem setAyReg_envHolding : (setAyReg n d a).envHolding = a.envHolding := rfl
@[simp] theorem setAyReg_envCont : (setAyReg n d a).envCont = a.envCont := rfl
@[simp] theorem setAyReg_envAtt : (setAyReg n d a).envAtt = a.envAtt := rfl
@[simp] theorem setAyReg_envAlt : (setAyReg n d a).envAlt = a.envAlt := rfl
@[simp] theorem setAyReg_envHold : (setAyReg n d a).envHold = a.envHold := rfl

end

section
variable (a : AyBank)

@[simp] theorem ayLfsrShift_regs : (ayLfsrShift a).regs = a.regs := rfl
@[simp] theorem ayLfsrShift_active : (ayLfsrShift a).active = a.active := rfl
@[simp] theorem ayLfsrShift_addr : (ayLfsrShift a).addr = a.addr := rfl
@[simp] theorem ayLfsrShift_toneCnt : (ayLfsrShift a).toneCnt = a.toneCnt := rfl
@[simp] theorem ayLfsrShift_toneOut : (ayLfsrShift a).toneOut = a.toneOut := rfl
@[simp] theorem ayLfsrShift_noiseCnt : (ayLfsrShift a).noiseCnt = a.noiseCnt := rfl
@[simp] theorem ayLfsrShift_noiseFlip : (ayLfsrShift a).noiseFlip = a.noiseFlip := rfl
@[simp] theorem ayLfsrShift_lfsr : (ayLfsrShift a).lfsr = ayShifted a.lfsr := rfl
@[simp] theorem ayLfsrShift_noiseOut : (ayLfsrShift a).noiseOut = ayNoiseOutput a.lfsr := rfl
@[simp] theorem ayLfsrShift_envCnt : (ayLfsrShift a).envCnt = a.envCnt := rfl
@[simp] theorem ayLfsrShift_envLevel : (ayLfsrShift a).envLevel = a.envLevel := rfl
@[simp] theorem ayLfsrShift_envAttack : (ayLfsrShift a).envAttack = a.envAttack := rfl
@[simp] theorem ayLfsrShift_envHolding : (ayLfsrShift a).envHolding = a.envHolding := rfl
@[simp] theorem ayLfsrShift_envCont : (ayLfsrShift a).envCont = a.envCont := rfl
@[simp] theorem ayLfsrShift_envAtt : (ayLfsrShift a).envAtt = a.envAtt := rfl
@[simp] theorem ayLfsrShift_envAlt : (ayLfsrShift a).envAlt = a.envAlt := rfl
@[simp] theorem ayLfsrShift_envHold : (ayLfsrShift a).envHold = a.envHold := rfl

end

section
variable (m : AyModel) (a : AyBank)

@[simp] theorem envRearm_regs : (envRearm m a).regs = a.regs := rfl
@[simp] theorem envRearm_active : (envRearm m a).active = a.active := rfl
@[simp] theorem envRearm_addr : (envRearm m a).addr = a.addr := rfl
@[simp] theorem envRearm_toneCnt : (envRearm m a).toneCnt = a.toneCnt := rfl
@[simp] theorem envRearm_toneOut : (envRearm m a).toneOut = a.toneOut := rfl
@[simp] theorem envRearm_noiseCnt : (envRearm m a).noiseCnt = a.noiseCnt := rfl
@[simp] theorem envRearm_noiseFlip : (envRearm m a).noiseFlip = a.noiseFlip := rfl
@[simp] theorem envRearm_lfsr : (envRearm m a).lfsr = a.lfsr := rfl
@[simp] theorem envRearm_noiseOut : (envRearm m a).noiseOut = a.noiseOut := rfl
@[simp] theorem envRearm_envCnt : (envRearm m a).envCnt = a.envCnt := rfl
@[simp] theorem envRearm_envLevel : (envRearm m a).envLevel = rampStart m (attBit a.regs[13]) := rfl
@[simp] theorem envRearm_envAttack : (envRearm m a).envAttack = attBit a.regs[13] := rfl
@[simp] theorem envRearm_envHolding : (envRearm m a).envHolding = false := rfl
@[simp] theorem envRearm_envCont : (envRearm m a).envCont = contBit a.regs[13] := rfl
@[simp] theorem envRearm_envAtt : (envRearm m a).envAtt = attBit a.regs[13] := rfl
@[simp] theorem envRearm_envAlt : (envRearm m a).envAlt = altBit a.regs[13] := rfl
@[simp] theorem envRearm_envHold : (envRearm m a).envHold = holdBit a.regs[13] := rfl

end

section
variable (ch : BitVec 2) (v : Bool) (b : SnBank)

@[simp] theorem setLatch_toneReg : (setLatch ch v b).toneReg = b.toneReg := rfl
@[simp] theorem setLatch_noiseReg : (setLatch ch v b).noiseReg = b.noiseReg := rfl
@[simp] theorem setLatch_vol : (setLatch ch v b).vol = b.vol := rfl
@[simp] theorem setLatch_latchCh : (setLatch ch v b).latchCh = ch := rfl
@[simp] theorem setLatch_latchVol : (setLatch ch v b).latchVol = v := rfl
@[simp] theorem setLatch_stereo : (setLatch ch v b).stereo = b.stereo := rfl
@[simp] theorem setLatch_toneCnt : (setLatch ch v b).toneCnt = b.toneCnt := rfl
@[simp] theorem setLatch_toneOut : (setLatch ch v b).toneOut = b.toneOut := rfl
@[simp] theorem setLatch_noiseCnt : (setLatch ch v b).noiseCnt = b.noiseCnt := rfl
@[simp] theorem setLatch_lfsr : (setLatch ch v b).lfsr = b.lfsr := rfl
@[simp] theorem setLatch_noiseOut : (setLatch ch v b).noiseOut = b.noiseOut := rfl

end

section
variable (c : Chan) (p : BitVec 10) (b : SnBank)

@[simp] theorem setTonePeriod_toneReg : (setTonePeriod c p b).toneReg = b.toneReg.set c p := rfl
@[simp] theorem setTonePeriod_noiseReg : (setTonePeriod c p b).noiseReg = b.noiseReg := rfl
@[simp] theorem setTonePeriod_vol : (setTonePeriod c p b).vol = b.vol := rfl
@[simp] theorem setTonePeriod_latchCh : (setTonePeriod c p b).latchCh = b.latchCh := rfl
@[simp] theorem setTonePeriod_latchVol : (setTonePeriod c p b).latchVol = b.latchVol := rfl
@[simp] theorem setTonePeriod_stereo : (setTonePeriod c p b).stereo = b.stereo := rfl
@[simp] theorem setTonePeriod_toneCnt : (setTonePeriod c p b).toneCnt = b.toneCnt := rfl
@[simp] theorem setTonePeriod_toneOut : (setTonePeriod c p b).toneOut = b.toneOut := rfl
@[simp] theorem setTonePeriod_noiseCnt : (setTonePeriod c p b).noiseCnt = b.noiseCnt := rfl
@[simp] theorem setTonePeriod_lfsr : (setTonePeriod c p b).lfsr = b.lfsr := rfl
@[simp] theorem setTonePeriod_noiseOut : (setTonePeriod c p b).noiseOut = b.noiseOut := rfl

end

section
variable (c : Fin 4) (v : BitVec 4) (b : SnBank)

@[simp] theorem setVolume_toneReg : (setVolume c v b).toneReg = b.toneReg := rfl
@[simp] theorem setVolume_noiseReg : (setVolume c v b).noiseReg = b.noiseReg := rfl
@[simp] theorem setVolume_vol : (setVolume c v b).vol = b.vol.set c v := rfl
@[simp] theorem setVolume_latchCh : (setVolume c v b).latchCh = b.latchCh := rfl
@[simp] theorem setVolume_latchVol : (setVolume c v b).latchVol = b.latchVol := rfl
@[simp] theorem setVolume_stereo : (setVolume c v b).stereo = b.stereo := rfl
@[simp] theorem setVolume_toneCnt : (setVolume c v b).toneCnt = b.toneCnt := rfl
@[simp] theorem setVolume_toneOut : (setVolume c v b).toneOut = b.toneOut := rfl
@[simp] theorem setVolume_noiseCnt : (setVolume c v b).noiseCnt = b.noiseCnt := rfl
@[simp] theorem setVolume_lfsr : (setVolume c v b).lfsr = b.lfsr := rfl
@[simp] theorem setVolume_noiseOut : (setVolume c v b).noiseOut = b.noiseOut := rfl

end

section
variable (r : Bool) (w : Nat) (v : BitVec 3) (b : SnBank)

@[simp] theorem writeNoiseReg_toneReg : (writeNoiseReg r w v b).toneReg = b.toneReg := rfl
@[simp] theorem writeNoiseReg_noiseReg : (writeNoiseReg r w v b).noiseReg = v := rfl
@[simp] theorem writeNoiseReg_vol : (writeNoiseReg r w v b).vol = b.vol := rfl
@[simp] theorem writeNoiseReg_latchCh : (writeNoiseReg r w v b).latchCh = b.latchCh := rfl
@[simp] theorem writeNoiseReg_latchVol : (writeNoiseReg r w v b).latchVol = b.latchVol := rfl
@[simp] theorem writeNoiseReg_stereo : (writeNoiseReg r w v b).stereo = b.stereo := rfl
@[simp] theorem writeNoiseReg_toneCnt : (writeNoiseReg r w v b).toneCnt = b.toneCnt := rfl
@[simp] theorem writeNoiseReg_toneOut : (writeNoiseReg r w v b).toneOut = b.toneOut := rfl
@[simp] theorem writeNoiseReg_noiseCnt : (writeNoiseReg r w v b).noiseCnt = b.noiseCnt := rfl
@[simp] theorem writeNoiseReg_lfsr : (writeNoiseReg r w v b).lfsr = if r then snSeed w else b.lfsr := rfl
@[simp] theorem writeNoiseReg_noiseOut : (writeNoiseReg r w v b).noiseOut = b.noiseOut := rfl

end

section
variable (w : Nat) (mask : BitVec 17) (b : SnBank)

@[simp] theorem snLfsrShift_toneReg : (snLfsrShift w mask b).toneReg = b.toneReg := rfl
@[simp] theorem snLfsrShift_noiseReg : (snLfsrShift w mask b).noiseReg = b.noiseReg := rfl
@[simp] theorem snLfsrShift_vol : (snLfsrShift w mask b).vol = b.vol := rfl
@[simp] theorem snLfsrShift_latchCh : (snLfsrShift w mask b).latchCh = b.latchCh := rfl
@[simp] theorem snLfsrShift_latchVol : (snLfsrShift w mask b).latchVol = b.latchVol := rfl
@[simp] theorem snLfsrShift_stereo : (snLfsrShift w mask b).stereo = b.stereo := rfl
@[simp] theorem snLfsrShift_toneCnt : (snLfsrShift w mask b).toneCnt = b.toneCnt := rfl
@[simp] theorem snLfsrShift_toneOut : (snLfsrShift w mask b).toneOut = b.toneOut := rfl
@[simp] theorem snLfsrShift_noiseCnt : (snLfsrShift w mask b).noiseCnt = b.noiseCnt := rfl
@[simp] theorem snLfsrShift_lfsr : (snLfsrShift w mask b).lfsr = snShifted (whiteNoise b.noiseReg) w mask b.lfsr := rfl
@[simp] theorem snLfsrShift_noiseOut : (snLfsrShift w mask b).noiseOut = snNoiseOutput b.lfsr := rfl

end

end Sys2Proof.Machine
end

