-- ==== Sys2Proof/Laws/Units.lean ====
section
/-! SUPPORT. What each unit step can do: which fields it keeps, and its cases. -/

-- One elaboration thread: a thread for each small theorem can exceed the checker's memory limit.
set_option Elab.async false

namespace Sys2Proof.Machine

section
variable (c : Chan) (a : AyBank)

@[simp] theorem ayToneTick_regs : (ayToneTick c a).regs = a.regs := by
  simp only [ayToneTick]; split <;> rfl

@[simp] theorem ayToneTick_active : (ayToneTick c a).active = a.active := by
  simp only [ayToneTick]; split <;> rfl

@[simp] theorem ayToneTick_addr : (ayToneTick c a).addr = a.addr := by
  simp only [ayToneTick]; split <;> rfl

@[simp] theorem ayToneTick_noiseCnt : (ayToneTick c a).noiseCnt = a.noiseCnt := by
  simp only [ayToneTick]; split <;> rfl

@[simp] theorem ayToneTick_noiseFlip : (ayToneTick c a).noiseFlip = a.noiseFlip := by
  simp only [ayToneTick]; split <;> rfl

@[simp] theorem ayToneTick_lfsr : (ayToneTick c a).lfsr = a.lfsr := by
  simp only [ayToneTick]; split <;> rfl

@[simp] theorem ayToneTick_noiseOut : (ayToneTick c a).noiseOut = a.noiseOut := by
  simp only [ayToneTick]; split <;> rfl

@[simp] theorem ayToneTick_envCnt : (ayToneTick c a).envCnt = a.envCnt := by
  simp only [ayToneTick]; split <;> rfl

@[simp] theorem ayToneTick_envLevel : (ayToneTick c a).envLevel = a.envLevel := by
  simp only [ayToneTick]; split <;> rfl

@[simp] theorem ayToneTick_envAttack : (ayToneTick c a).envAttack = a.envAttack := by
  simp only [ayToneTick]; split <;> rfl

@[simp] theorem ayToneTick_envHolding : (ayToneTick c a).envHolding = a.envHolding := by
  simp only [ayToneTick]; split <;> rfl

@[simp] theorem ayToneTick_envCont : (ayToneTick c a).envCont = a.envCont := by
  simp only [ayToneTick]; split <;> rfl

@[simp] theorem ayToneTick_envAtt : (ayToneTick c a).envAtt = a.envAtt := by
  simp only [ayToneTick]; split <;> rfl

@[simp] theorem ayToneTick_envAlt : (ayToneTick c a).envAlt = a.envAlt := by
  simp only [ayToneTick]; split <;> rfl

@[simp] theorem ayToneTick_envHold : (ayToneTick c a).envHold = a.envHold := by
  simp only [ayToneTick]; split <;> rfl

end

section
variable (c : Chan) (b : SnBank)

@[simp] theorem snToneTick_toneReg : (snToneTick c b).toneReg = b.toneReg := by
  simp only [snToneTick]; split; · rfl
  split <;> rfl

@[simp] theorem snToneTick_noiseReg : (snToneTick c b).noiseReg = b.noiseReg := by
  simp only [snToneTick]; split; · rfl
  split <;> rfl

@[simp] theorem snToneTick_vol : (snToneTick c b).vol = b.vol := by
  simp only [snToneTick]; split; · rfl
  split <;> rfl

@[simp] theorem snToneTick_latchCh : (snToneTick c b).latchCh = b.latchCh := by
  simp only [snToneTick]; split; · rfl
  split <;> rfl

@[simp] theorem snToneTick_latchVol : (snToneTick c b).latchVol = b.latchVol := by
  simp only [snToneTick]; split; · rfl
  split <;> rfl

@[simp] theorem snToneTick_stereo : (snToneTick c b).stereo = b.stereo := by
  simp only [snToneTick]; split; · rfl
  split <;> rfl

@[simp] theorem snToneTick_noiseCnt : (snToneTick c b).noiseCnt = b.noiseCnt := by
  simp only [snToneTick]; split; · rfl
  split <;> rfl

@[simp] theorem snToneTick_lfsr : (snToneTick c b).lfsr = b.lfsr := by
  simp only [snToneTick]; split; · rfl
  split <;> rfl

@[simp] theorem snToneTick_noiseOut : (snToneTick c b).noiseOut = b.noiseOut := by
  simp only [snToneTick]; split; · rfl
  split <;> rfl

end

section
variable (a : AyBank)

@[simp] theorem ayNoiseTick_regs : (ayNoiseTick a).regs = a.regs := by
  simp only [ayNoiseTick]; split; · split <;> rfl
  rfl

@[simp] theorem ayNoiseTick_active : (ayNoiseTick a).active = a.active := by
  simp only [ayNoiseTick]; split; · split <;> rfl
  rfl

@[simp] theorem ayNoiseTick_addr : (ayNoiseTick a).addr = a.addr := by
  simp only [ayNoiseTick]; split; · split <;> rfl
  rfl

@[simp] theorem ayNoiseTick_toneCnt : (ayNoiseTick a).toneCnt = a.toneCnt := by
  simp only [ayNoiseTick]; split; · split <;> rfl
  rfl

@[simp] theorem ayNoiseTick_toneOut : (ayNoiseTick a).toneOut = a.toneOut := by
  simp only [ayNoiseTick]; split; · split <;> rfl
  rfl

@[simp] theorem ayNoiseTick_envCnt : (ayNoiseTick a).envCnt = a.envCnt := by
  simp only [ayNoiseTick]; split; · split <;> rfl
  rfl

@[simp] theorem ayNoiseTick_envLevel : (ayNoiseTick a).envLevel = a.envLevel := by
  simp only [ayNoiseTick]; split; · split <;> rfl
  rfl

@[simp] theorem ayNoiseTick_envAttack : (ayNoiseTick a).envAttack = a.envAttack := by
  simp only [ayNoiseTick]; split; · split <;> rfl
  rfl

@[simp] theorem ayNoiseTick_envHolding : (ayNoiseTick a).envHolding = a.envHolding := by
  simp only [ayNoiseTick]; split; · split <;> rfl
  rfl

@[simp] theorem ayNoiseTick_envCont : (ayNoiseTick a).envCont = a.envCont := by
  simp only [ayNoiseTick]; split; · split <;> rfl
  rfl

@[simp] theorem ayNoiseTick_envAtt : (ayNoiseTick a).envAtt = a.envAtt := by
  simp only [ayNoiseTick]; split; · split <;> rfl
  rfl

@[simp] theorem ayNoiseTick_envAlt : (ayNoiseTick a).envAlt = a.envAlt := by
  simp only [ayNoiseTick]; split; · split <;> rfl
  rfl

@[simp] theorem ayNoiseTick_envHold : (ayNoiseTick a).envHold = a.envHold := by
  simp only [ayNoiseTick]; split; · split <;> rfl
  rfl

end

section
variable (div : Fin 3 → BitVec 16) (w : Nat) (mask : BitVec 17) (b : SnBank)

@[simp] theorem snNoiseTick_toneReg : (snNoiseTick div w mask b).toneReg = b.toneReg := by
  simp only [snNoiseTick]; split <;> rfl

@[simp] theorem snNoiseTick_noiseReg : (snNoiseTick div w mask b).noiseReg = b.noiseReg := by
  simp only [snNoiseTick]; split <;> rfl

@[simp] theorem snNoiseTick_vol : (snNoiseTick div w mask b).vol = b.vol := by
  simp only [snNoiseTick]; split <;> rfl

@[simp] theorem snNoiseTick_latchCh : (snNoiseTick div w mask b).latchCh = b.latchCh := by
  simp only [snNoiseTick]; split <;> rfl

@[simp] theorem snNoiseTick_latchVol : (snNoiseTick div w mask b).latchVol = b.latchVol := by
  simp only [snNoiseTick]; split <;> rfl

@[simp] theorem snNoiseTick_stereo : (snNoiseTick div w mask b).stereo = b.stereo := by
  simp only [snNoiseTick]; split <;> rfl

@[simp] theorem snNoiseTick_toneCnt : (snNoiseTick div w mask b).toneCnt = b.toneCnt := by
  simp only [snNoiseTick]; split <;> rfl

@[simp] theorem snNoiseTick_toneOut : (snNoiseTick div w mask b).toneOut = b.toneOut := by
  simp only [snNoiseTick]; split <;> rfl

end

section
variable (m : AyModel) (a : AyBank)

@[simp] theorem envTerminal_regs : (envTerminal m a).regs = a.regs := by
  simp only [envTerminal]; split; · rfl
  split; · rfl
  split <;> rfl

@[simp] theorem envTerminal_active : (envTerminal m a).active = a.active := by
  simp only [envTerminal]; split; · rfl
  split; · rfl
  split <;> rfl

@[simp] theorem envTerminal_addr : (envTerminal m a).addr = a.addr := by
  simp only [envTerminal]; split; · rfl
  split; · rfl
  split <;> rfl

@[simp] theorem envTerminal_toneCnt : (envTerminal m a).toneCnt = a.toneCnt := by
  simp only [envTerminal]; split; · rfl
  split; · rfl
  split <;> rfl

@[simp] theorem envTerminal_toneOut : (envTerminal m a).toneOut = a.toneOut := by
  simp only [envTerminal]; split; · rfl
  split; · rfl
  split <;> rfl

@[simp] theorem envTerminal_noiseCnt : (envTerminal m a).noiseCnt = a.noiseCnt := by
  simp only [envTerminal]; split; · rfl
  split; · rfl
  split <;> rfl

@[simp] theorem envTerminal_noiseFlip : (envTerminal m a).noiseFlip = a.noiseFlip := by
  simp only [envTerminal]; split; · rfl
  split; · rfl
  split <;> rfl

@[simp] theorem envTerminal_lfsr : (envTerminal m a).lfsr = a.lfsr := by
  simp only [envTerminal]; split; · rfl
  split; · rfl
  split <;> rfl

@[simp] theorem envTerminal_noiseOut : (envTerminal m a).noiseOut = a.noiseOut := by
  simp only [envTerminal]; split; · rfl
  split; · rfl
  split <;> rfl

@[simp] theorem envTerminal_envCnt : (envTerminal m a).envCnt = a.envCnt := by
  simp only [envTerminal]; split; · rfl
  split; · rfl
  split <;> rfl

@[simp] theorem envTerminal_envCont : (envTerminal m a).envCont = a.envCont := by
  simp only [envTerminal]; split; · rfl
  split; · rfl
  split <;> rfl

@[simp] theorem envTerminal_envAtt : (envTerminal m a).envAtt = a.envAtt := by
  simp only [envTerminal]; split; · rfl
  split; · rfl
  split <;> rfl

@[simp] theorem envTerminal_envAlt : (envTerminal m a).envAlt = a.envAlt := by
  simp only [envTerminal]; split; · rfl
  split; · rfl
  split <;> rfl

@[simp] theorem envTerminal_envHold : (envTerminal m a).envHold = a.envHold := by
  simp only [envTerminal]; split; · rfl
  split; · rfl
  split <;> rfl

end

section
variable (m : AyModel) (a : AyBank)

@[simp] theorem envLevelStep_regs : (envLevelStep m a).regs = a.regs := by
  simp only [envLevelStep]; split <;> split <;> simp

@[simp] theorem envLevelStep_active : (envLevelStep m a).active = a.active := by
  simp only [envLevelStep]; split <;> split <;> simp

@[simp] theorem envLevelStep_addr : (envLevelStep m a).addr = a.addr := by
  simp only [envLevelStep]; split <;> split <;> simp

@[simp] theorem envLevelStep_toneCnt : (envLevelStep m a).toneCnt = a.toneCnt := by
  simp only [envLevelStep]; split <;> split <;> simp

@[simp] theorem envLevelStep_toneOut : (envLevelStep m a).toneOut = a.toneOut := by
  simp only [envLevelStep]; split <;> split <;> simp

@[simp] theorem envLevelStep_noiseCnt : (envLevelStep m a).noiseCnt = a.noiseCnt := by
  simp only [envLevelStep]; split <;> split <;> simp

@[simp] theorem envLevelStep_noiseFlip : (envLevelStep m a).noiseFlip = a.noiseFlip := by
  simp only [envLevelStep]; split <;> split <;> simp

@[simp] theorem envLevelStep_lfsr : (envLevelStep m a).lfsr = a.lfsr := by
  simp only [envLevelStep]; split <;> split <;> simp

@[simp] theorem envLevelStep_noiseOut : (envLevelStep m a).noiseOut = a.noiseOut := by
  simp only [envLevelStep]; split <;> split <;> simp

@[simp] theorem envLevelStep_envCnt : (envLevelStep m a).envCnt = a.envCnt := by
  simp only [envLevelStep]; split <;> split <;> simp

@[simp] theorem envLevelStep_envCont : (envLevelStep m a).envCont = a.envCont := by
  simp only [envLevelStep]; split <;> split <;> simp

@[simp] theorem envLevelStep_envAtt : (envLevelStep m a).envAtt = a.envAtt := by
  simp only [envLevelStep]; split <;> split <;> simp

@[simp] theorem envLevelStep_envAlt : (envLevelStep m a).envAlt = a.envAlt := by
  simp only [envLevelStep]; split <;> split <;> simp

@[simp] theorem envLevelStep_envHold : (envLevelStep m a).envHold = a.envHold := by
  simp only [envLevelStep]; split <;> split <;> simp

end

section
variable (m : AyModel) (a : AyBank)

@[simp] theorem envTick_regs : (envTick m a).regs = a.regs := by
  simp only [envTick]; split; · split <;> simp
  rfl

@[simp] theorem envTick_active : (envTick m a).active = a.active := by
  simp only [envTick]; split; · split <;> simp
  rfl

@[simp] theorem envTick_addr : (envTick m a).addr = a.addr := by
  simp only [envTick]; split; · split <;> simp
  rfl

@[simp] theorem envTick_toneCnt : (envTick m a).toneCnt = a.toneCnt := by
  simp only [envTick]; split; · split <;> simp
  rfl

@[simp] theorem envTick_toneOut : (envTick m a).toneOut = a.toneOut := by
  simp only [envTick]; split; · split <;> simp
  rfl

@[simp] theorem envTick_noiseCnt : (envTick m a).noiseCnt = a.noiseCnt := by
  simp only [envTick]; split; · split <;> simp
  rfl

@[simp] theorem envTick_noiseFlip : (envTick m a).noiseFlip = a.noiseFlip := by
  simp only [envTick]; split; · split <;> simp
  rfl

@[simp] theorem envTick_lfsr : (envTick m a).lfsr = a.lfsr := by
  simp only [envTick]; split; · split <;> simp
  rfl

@[simp] theorem envTick_noiseOut : (envTick m a).noiseOut = a.noiseOut := by
  simp only [envTick]; split; · split <;> simp
  rfl

@[simp] theorem envTick_envCont : (envTick m a).envCont = a.envCont := by
  simp only [envTick]; split; · split <;> simp
  rfl

@[simp] theorem envTick_envAtt : (envTick m a).envAtt = a.envAtt := by
  simp only [envTick]; split; · split <;> simp
  rfl

@[simp] theorem envTick_envAlt : (envTick m a).envAlt = a.envAlt := by
  simp only [envTick]; split; · split <;> simp
  rfl

@[simp] theorem envTick_envHold : (envTick m a).envHold = a.envHold := by
  simp only [envTick]; split; · split <;> simp
  rfl

end

end Sys2Proof.Machine
end

