-- ==== Sys2Proof/Laws/Exec.lean ====
section
/-! SUPPORT. One lemma for each shared operation: exactly when it completes, and in which state. -/

-- One elaboration thread: a thread for each small theorem can exceed the checker's memory limit.
set_option Elab.async false

namespace Sys2Proof.Machine

variable {s t : State}

theorem ayAddressWrite_eq_next {r : BitVec 4} :
    ayAddressWrite r s = .next t ↔ s.initialised = true ∧ (∃ m, s.variant = .ay m) ∧
      t = { s with ay := { s.ay with active := true, addr := r }, result := none } := by
  simp [ayAddressWrite, whenAy_eq_next, State.withAy]

theorem ayBadAddressWrite_eq_next {d : Byte} :
    ayBadAddressWrite d s = .next t ↔ s.initialised = true ∧ (∃ m, s.variant = .ay m) ∧
      t = { s with ay := { s.ay with active := false }, diag := s.diag ++ [.badAddress d],
                   result := none } := by
  simp [ayBadAddressWrite, whenAy_eq_next, State.withAy]

theorem execAyDataInactive_eq_next {lat : BitVec 4} {d : Byte} :
    execAyDataInactive lat d s = .next t ↔ s.initialised = true ∧ (∃ m, s.variant = .ay m) ∧
      t = { s with result := none } := by
  simp [execAyDataInactive, whenAy_eq_next]

theorem ayDataWrite_eq_next {n : Fin 16} {d : Byte} :
    ayDataWrite n d s = .next t ↔ s.initialised = true ∧ ∃ m, s.variant = .ay m ∧
      t = { s with ay := storeAyReg m n d s.ay, result := none } := by
  simp [ayDataWrite, whenAy_eq_next, State.withAy]

theorem snLatchTone_eq_next {c : Chan} {d : BitVec 4} :
    snLatchTone c d s = .next t ↔ s.initialised = true ∧ (∃ m, s.variant = .sn m) ∧
      t = { s with sn := setTonePeriod c (withLowNibble s.sn.toneReg[c] d)
                    (setLatch (BitVec.ofNat 2 c.val) false s.sn), result := none } := by
  simp [snLatchTone, whenSn_eq_next, State.withSn]

theorem snLatchVolume_eq_next {c : Fin 4} {d : BitVec 4} :
    snLatchVolume c d s = .next t ↔ s.initialised = true ∧ (∃ m, s.variant = .sn m) ∧
      t = { s with sn := setVolume c d (setLatch (BitVec.ofNat 2 c.val) true s.sn),
                   result := none } := by
  simp [snLatchVolume, whenSn_eq_next, State.withSn]

theorem snDataTone_eq_next {c : Chan} {d : BitVec 7} :
    snDataTone c d s = .next t ↔ s.initialised = true ∧ (∃ m, s.variant = .sn m) ∧
      t = { s with sn := setTonePeriod c (withHighBits s.sn.toneReg[c] d) s.sn,
                   result := none } := by
  simp [snDataTone, whenSn_eq_next, State.withSn]

theorem snDataVolume_eq_next {c : Fin 4} {d : BitVec 7} :
    snDataVolume c d s = .next t ↔ s.initialised = true ∧ (∃ m, s.variant = .sn m) ∧
      t = { s with sn := setVolume c (dataVolumeBits d) s.sn, result := none } := by
  simp [snDataVolume, whenSn_eq_next, State.withSn]

theorem execSnLatchNoise_eq_next {lch : BitVec 2} {lvol : Bool} {d : BitVec 4} :
    execSnLatchNoise lch lvol d s = .next t ↔ s.initialised = true ∧ (∃ m, s.variant = .sn m) ∧
      t = { s with sn := writeNoiseReg Config.snNoiseWriteReseeds s.tapWidth (latchNoiseBits d)
                    (setLatch 3 false s.sn), result := none } := by
  simp [execSnLatchNoise, whenSn_eq_next, State.withSn]

theorem execSnDataNoise_eq_next {d : BitVec 7} :
    execSnDataNoise d s = .next t ↔ s.initialised = true ∧ (∃ m, s.variant = .sn m) ∧
      t = { s with sn := writeNoiseReg Config.snNoiseWriteReseeds s.tapWidth (dataNoiseBits d) s.sn,
                   result := none } := by
  simp [execSnDataNoise, whenSn_eq_next, State.withSn]

theorem execGgStereo_eq_next {m : Byte} :
    execGgStereo m s = .next t ↔ s.initialised = true ∧ s.variant = .sn .sn76489gg ∧
      t = { s with sn := { s.sn with stereo := m }, result := none } := by
  simp [execGgStereo, whenGameGear_eq_next, State.withSn]

theorem execTick_eq_next :
    execTick s = .next t ↔ s.initialised = true ∧
      ((∃ m, s.variant = .ay m ∧ t = { s with ay := ayTick m s.ay, result := none }) ∨
       ((∃ m, s.variant = .sn m) ∧
        t = { s with sn := snTick Config.snNoiseDiv s.tapWidth s.feedbackMask s.sn,
                     result := none })) := by
  rw [execTick, whenInitialised_eq_next]
  cases h : s.variant <;> simp [State.withAy, State.withSn, h]

theorem execGetSamples_eq_next :
    execGetSamples s = .next t ↔ s.initialised = true ∧
      t = { s with result := some (sampleOf s) } := by
  simp [execGetSamples, whenInitialised_eq_next]

theorem execGetClockDivisor_eq_next :
    execGetClockDivisor s = .next t ↔ s.initialised = true ∧
      t = { s with result := some (.divisor (clockDivisor s)) } := by
  simp [execGetClockDivisor, whenInitialised_eq_next]

theorem execGetSampleRate_eq_next {hz : Nat} :
    execGetSampleRate hz s = .next t ↔ s.initialised = true ∧
      t = { s with result := some (.rate (mkRat hz (clockDivisor s))) } := by
  simp [execGetSampleRate, whenInitialised_eq_next]

theorem execInit_eq_next {v : BitVec 4} {noise : Option NoiseConfig} :
    execInit v noise s = .next t ↔ ∃ var c, variantOfCode v = some var ∧
      noiseConfigFor var noise = some c ∧ t = initialisedAs var c s.pending := by
  unfold execInit
  cases h : variantOfCode v with
  | none => simp
  | some var =>
    cases h' : noiseConfigFor var noise with
    | none => simp [h']
    | some c => simp [h', eq_comm]

end Sys2Proof.Machine
end

