-- ==== Sys2Proof/Laws/PerInstr.lean ====
section
/-! SUPPORT. Per-instruction families. EncodeFits: the encoding of an operation fits the 17 bits of the
operation word, and its three top bits are the KIND of its format (30_encoding.md R58). -/

-- One elaboration thread: a thread for each small theorem can exceed the checker's memory limit.
set_option Elab.async false

namespace Sys2Proof.Laws.EncodeFits

/-- The KIND a row's format has (30_encoding.md R58), by the row's index. -/
def kindOfRow (row : Nat) : Nat :=
  if row < 22 then 0 else if row < 38 then 1 else row - 36

/-- The encoding fits the word and carries the KIND of its row. -/
def Statement (i : Instr) : Prop :=
  encodeNat i < 2 ^ 17 ∧ encodeNat i / 2 ^ 14 = kindOfRow i.rowIndex

theorem ayAddr (act : Bool) (lat r : BitVec 4) : Statement (.ayAddr act lat r) := by
  have := lat.isLt
  have := r.isLt
  have := Bool.toNat_le act
  simp [Statement, encodeNat, ayBusNat, kindOfRow, Instr.rowIndex]
  omega

theorem ayAddrBadBit7 (act : Bool) (lat : BitVec 4) (low : BitVec 7) : Statement (.ayAddrBadBit7 act lat low) := by
  have := lat.isLt
  have := low.isLt
  have := Bool.toNat_le act
  simp [Statement, encodeNat, ayBusNat, kindOfRow, Instr.rowIndex]
  omega

theorem ayAddrBadBit6 (act : Bool) (lat : BitVec 4) (low : BitVec 6) : Statement (.ayAddrBadBit6 act lat low) := by
  have := lat.isLt
  have := low.isLt
  have := Bool.toNat_le act
  simp [Statement, encodeNat, ayBusNat, kindOfRow, Instr.rowIndex]
  omega

theorem ayAddrBadBit5 (act : Bool) (lat : BitVec 4) (low : BitVec 5) : Statement (.ayAddrBadBit5 act lat low) := by
  have := lat.isLt
  have := low.isLt
  have := Bool.toNat_le act
  simp [Statement, encodeNat, ayBusNat, kindOfRow, Instr.rowIndex]
  omega

theorem ayAddrBadBit4 (act : Bool) (lat : BitVec 4) (low : BitVec 4) : Statement (.ayAddrBadBit4 act lat low) := by
  have := lat.isLt
  have := low.isLt
  have := Bool.toNat_le act
  simp [Statement, encodeNat, ayBusNat, kindOfRow, Instr.rowIndex]
  omega

theorem ayDataInactive (lat : BitVec 4) (byte : Byte) : Statement (.ayDataInactive lat byte) := by
  have := lat.isLt
  have := byte.isLt
  simp [Statement, encodeNat, ayBusNat, kindOfRow, Instr.rowIndex]
  omega

theorem ayDataR0 (d : Byte) : Statement (.ayDataR0 d) := by
  have := d.isLt
  simp [Statement, encodeNat, ayBusNat, kindOfRow, Instr.rowIndex]
  omega

theorem ayDataR1 (d : Byte) : Statement (.ayDataR1 d) := by
  have := d.isLt
  simp [Statement, encodeNat, ayBusNat, kindOfRow, Instr.rowIndex]
  omega

theorem ayDataR2 (d : Byte) : Statement (.ayDataR2 d) := by
  have := d.isLt
  simp [Statement, encodeNat, ayBusNat, kindOfRow, Instr.rowIndex]
  omega

theorem ayDataR3 (d : Byte) : Statement (.ayDataR3 d) := by
  have := d.isLt
  simp [Statement, encodeNat, ayBusNat, kindOfRow, Instr.rowIndex]
  omega

theorem ayDataR4 (d : Byte) : Statement (.ayDataR4 d) := by
  have := d.isLt
  simp [Statement, encodeNat, ayBusNat, kindOfRow, Instr.rowIndex]
  omega

theorem ayDataR5 (d : Byte) : Statement (.ayDataR5 d) := by
  have := d.isLt
  simp [Statement, encodeNat, ayBusNat, kindOfRow, Instr.rowIndex]
  omega

theorem ayDataR6 (d : Byte) : Statement (.ayDataR6 d) := by
  have := d.isLt
  simp [Statement, encodeNat, ayBusNat, kindOfRow, Instr.rowIndex]
  omega

theorem ayDataR7 (d : Byte) : Statement (.ayDataR7 d) := by
  have := d.isLt
  simp [Statement, encodeNat, ayBusNat, kindOfRow, Instr.rowIndex]
  omega

theorem ayDataR8 (d : Byte) : Statement (.ayDataR8 d) := by
  have := d.isLt
  simp [Statement, encodeNat, ayBusNat, kindOfRow, Instr.rowIndex]
  omega

theorem ayDataR9 (d : Byte) : Statement (.ayDataR9 d) := by
  have := d.isLt
  simp [Statement, encodeNat, ayBusNat, kindOfRow, Instr.rowIndex]
  omega

theorem ayDataR10 (d : Byte) : Statement (.ayDataR10 d) := by
  have := d.isLt
  simp [Statement, encodeNat, ayBusNat, kindOfRow, Instr.rowIndex]
  omega

theorem ayDataR11 (d : Byte) : Statement (.ayDataR11 d) := by
  have := d.isLt
  simp [Statement, encodeNat, ayBusNat, kindOfRow, Instr.rowIndex]
  omega

theorem ayDataR12 (d : Byte) : Statement (.ayDataR12 d) := by
  have := d.isLt
  simp [Statement, encodeNat, ayBusNat, kindOfRow, Instr.rowIndex]
  omega

theorem ayDataR13 (d : Byte) : Statement (.ayDataR13 d) := by
  have := d.isLt
  simp [Statement, encodeNat, ayBusNat, kindOfRow, Instr.rowIndex]
  omega

theorem ayDataR14 (d : Byte) : Statement (.ayDataR14 d) := by
  have := d.isLt
  simp [Statement, encodeNat, ayBusNat, kindOfRow, Instr.rowIndex]
  omega

theorem ayDataR15 (d : Byte) : Statement (.ayDataR15 d) := by
  have := d.isLt
  simp [Statement, encodeNat, ayBusNat, kindOfRow, Instr.rowIndex]
  omega

theorem snLatchTone0 (lch : BitVec 2) (lvol : Bool) (d : BitVec 4) : Statement (.snLatchTone0 lch lvol d) := by
  have := lch.isLt
  have := d.isLt
  have := Bool.toNat_le lvol
  simp [Statement, encodeNat, snBusNat, kindOfRow, Instr.rowIndex]
  omega

theorem snLatchTone1 (lch : BitVec 2) (lvol : Bool) (d : BitVec 4) : Statement (.snLatchTone1 lch lvol d) := by
  have := lch.isLt
  have := d.isLt
  have := Bool.toNat_le lvol
  simp [Statement, encodeNat, snBusNat, kindOfRow, Instr.rowIndex]
  omega

theorem snLatchTone2 (lch : BitVec 2) (lvol : Bool) (d : BitVec 4) : Statement (.snLatchTone2 lch lvol d) := by
  have := lch.isLt
  have := d.isLt
  have := Bool.toNat_le lvol
  simp [Statement, encodeNat, snBusNat, kindOfRow, Instr.rowIndex]
  omega

theorem snLatchNoise (lch : BitVec 2) (lvol : Bool) (d : BitVec 4) : Statement (.snLatchNoise lch lvol d) := by
  have := lch.isLt
  have := d.isLt
  have := Bool.toNat_le lvol
  simp [Statement, encodeNat, snBusNat, kindOfRow, Instr.rowIndex]
  omega

theorem snLatchVol0 (lch : BitVec 2) (lvol : Bool) (d : BitVec 4) : Statement (.snLatchVol0 lch lvol d) := by
  have := lch.isLt
  have := d.isLt
  have := Bool.toNat_le lvol
  simp [Statement, encodeNat, snBusNat, kindOfRow, Instr.rowIndex]
  omega

theorem snLatchVol1 (lch : BitVec 2) (lvol : Bool) (d : BitVec 4) : Statement (.snLatchVol1 lch lvol d) := by
  have := lch.isLt
  have := d.isLt
  have := Bool.toNat_le lvol
  simp [Statement, encodeNat, snBusNat, kindOfRow, Instr.rowIndex]
  omega

theorem snLatchVol2 (lch : BitVec 2) (lvol : Bool) (d : BitVec 4) : Statement (.snLatchVol2 lch lvol d) := by
  have := lch.isLt
  have := d.isLt
  have := Bool.toNat_le lvol
  simp [Statement, encodeNat, snBusNat, kindOfRow, Instr.rowIndex]
  omega

theorem snLatchVol3 (lch : BitVec 2) (lvol : Bool) (d : BitVec 4) : Statement (.snLatchVol3 lch lvol d) := by
  have := lch.isLt
  have := d.isLt
  have := Bool.toNat_le lvol
  simp [Statement, encodeNat, snBusNat, kindOfRow, Instr.rowIndex]
  omega

theorem snDataTone0 (d : BitVec 7) : Statement (.snDataTone0 d) := by
  have := d.isLt
  simp [Statement, encodeNat, snBusNat, kindOfRow, Instr.rowIndex]
  omega

theorem snDataTone1 (d : BitVec 7) : Statement (.snDataTone1 d) := by
  have := d.isLt
  simp [Statement, encodeNat, snBusNat, kindOfRow, Instr.rowIndex]
  omega

theorem snDataTone2 (d : BitVec 7) : Statement (.snDataTone2 d) := by
  have := d.isLt
  simp [Statement, encodeNat, snBusNat, kindOfRow, Instr.rowIndex]
  omega

theorem snDataNoise (d : BitVec 7) : Statement (.snDataNoise d) := by
  have := d.isLt
  simp [Statement, encodeNat, snBusNat, kindOfRow, Instr.rowIndex]
  omega

theorem snDataVol0 (d : BitVec 7) : Statement (.snDataVol0 d) := by
  have := d.isLt
  simp [Statement, encodeNat, snBusNat, kindOfRow, Instr.rowIndex]
  omega

theorem snDataVol1 (d : BitVec 7) : Statement (.snDataVol1 d) := by
  have := d.isLt
  simp [Statement, encodeNat, snBusNat, kindOfRow, Instr.rowIndex]
  omega

theorem snDataVol2 (d : BitVec 7) : Statement (.snDataVol2 d) := by
  have := d.isLt
  simp [Statement, encodeNat, snBusNat, kindOfRow, Instr.rowIndex]
  omega

theorem snDataVol3 (d : BitVec 7) : Statement (.snDataVol3 d) := by
  have := d.isLt
  simp [Statement, encodeNat, snBusNat, kindOfRow, Instr.rowIndex]
  omega

theorem ggStereo (m : Byte) : Statement (.ggStereo m) := by
  have := m.isLt
  simp [Statement, encodeNat, kindOfRow, Instr.rowIndex]
  omega

theorem tick : Statement (.tick) := by
  simp [Statement, encodeNat, kindOfRow, Instr.rowIndex]

theorem getSamples : Statement (.getSamples) := by
  simp [Statement, encodeNat, kindOfRow, Instr.rowIndex]

theorem init (v : BitVec 4) (noise : Option NoiseConfig) : Statement (.init v noise) := by
  have := v.isLt
  simp [Statement, encodeNat, kindOfRow, Instr.rowIndex]
  omega

theorem getClockDivisor : Statement (.getClockDivisor) := by
  simp [Statement, encodeNat, kindOfRow, Instr.rowIndex]

theorem getSampleRate (clockHz : Nat) : Statement (.getSampleRate clockHz) := by
  simp [Statement, encodeNat, kindOfRow, Instr.rowIndex]

end Sys2Proof.Laws.EncodeFits
end

