-- ==== Sys2Proof/Laws/Tables.lean ====
section
/-! SUPPORT. The loads range over exactly the reals above 0 (00_scope.md R9). -/

namespace Sys2Proof.Machine

theorem loadOf_eq (root : ℝ) (n : Nat) : loadOf root n = root ^ 2 + 1 / ((n : ℝ) + 1) := by
  simp [loadOf, Rat.mkRat_eq_div, sq]

theorem loadOf_pos (root : ℝ) (n : Nat) : 0 < loadOf root n := by
  rw [loadOf_eq]; positivity

theorem exists_loadOf_eq {r : ℝ} (hr : 0 < r) : ∃ root n, loadOf root n = r := by
  obtain ⟨n, hn⟩ := exists_nat_one_div_lt hr
  exact ⟨√(r - 1 / (n + 1)), n, by rw [loadOf_eq, Real.sq_sqrt (by linarith)]; ring⟩

theorem loadResistance_pos (c : Chan) : 0 < loadResistance c := loadOf_pos _ _

end Sys2Proof.Machine
end

