-- ==== Sys2Proof/Tests/Slice0.lean ====
section
/-! SUPPORT. The model's own tests: the well-formedness smoke tests, a word written out from
30_encoding.md R68 for every constructor, one-step tests whose expected values are those of
95_test_vectors.md, and a witness for every obligation that has hypotheses. -/

-- One elaboration thread: a thread for each small theorem can exceed the checker's memory limit.
set_option Elab.async false

open Sys2Proof Sys2Proof.Machine

namespace Sys2Proof.Tests

/-! Well-formedness: an ill-formed term for each check. -/

theorem test_wellFormed_refuses_unknown_variant :
    (Instr.init 4 none).variantKnown = false ∧ (Instr.init 4 none).wellFormed = false ∧
    (Instr.init 15 none).wellFormed = false := by decide

theorem test_wellFormed_refuses_bad_noise_config :
    (Instr.init 2 (some ⟨0, 0⟩)).noiseConfigOk = false ∧
    (Instr.init 2 (some ⟨18, 9⟩)).wellFormed = false ∧
    (Instr.init 3 (some ⟨16, 0x10000⟩)).wellFormed = false := by decide

theorem test_wellFormed_accepts :
    (Instr.init 3 (some ⟨17, 0x1FFFF⟩)).wellFormed = true ∧
    (Instr.init 2 (some ⟨1, 1⟩)).wellFormed = true ∧
    (Instr.init 0 (some ⟨0, 0⟩)).wellFormed = true ∧ Instr.tick.wellFormed = true := by decide

/-! Decoding: the words are written out bit by bit from the patterns of 30_encoding.md R68, KIND first;
the values of V9 are among them. -/

theorem test_decode_ay_address :
    decode 0b00010000000000111 ⟨none, 0⟩ = .ok (.ayAddr false 0 7) ∧
    decode 0b00011101100001101 ⟨none, 0⟩ = .ok (.ayAddr true 0xB 0xD) := by decide

theorem test_decode_ay_bad_address :
    decode 0b00010000011110111 ⟨none, 0⟩ = .ok (.ayAddrBadBit7 false 0 0x77) ∧
    decode 0b00011100001000010 ⟨none, 0⟩ = .ok (.ayAddrBadBit6 true 8 2) ∧
    decode 0b00011000100111111 ⟨none, 0⟩ = .ok (.ayAddrBadBit5 true 1 0x1F) ∧
    decode 0b00010001100010000 ⟨none, 0⟩ = .ok (.ayAddrBadBit4 false 3 0) := by decide

theorem test_decode_ay_data_inactive :
    decode 0b00000110100001110 ⟨none, 0⟩ = .ok (.ayDataInactive 0xD 0x0E) := by decide

theorem test_decode_ay_data_low :
    decode 0b00001000000001111 ⟨none, 0⟩ = .ok (.ayDataR0 0x0F) ∧
    decode 0b00001000111110010 ⟨none, 0⟩ = .ok (.ayDataR1 0xF2) ∧
    decode 0b00001001010000001 ⟨none, 0⟩ = .ok (.ayDataR2 0x81) ∧
    decode 0b00001001110000010 ⟨none, 0⟩ = .ok (.ayDataR3 0x82) ∧
    decode 0b00001010010000011 ⟨none, 0⟩ = .ok (.ayDataR4 0x83) ∧
    decode 0b00001010110000100 ⟨none, 0⟩ = .ok (.ayDataR5 0x84) ∧
    decode 0b00001011010000101 ⟨none, 0⟩ = .ok (.ayDataR6 0x85) ∧
    decode 0b00001011100111000 ⟨none, 0⟩ = .ok (.ayDataR7 0x38) := by decide

theorem test_decode_ay_data_high :
    decode 0b00001100000001111 ⟨none, 0⟩ = .ok (.ayDataR8 0x0F) ∧
    decode 0b00001100110000110 ⟨none, 0⟩ = .ok (.ayDataR9 0x86) ∧
    decode 0b00001101010000111 ⟨none, 0⟩ = .ok (.ayDataR10 0x87) ∧
    decode 0b00001101100000011 ⟨none, 0⟩ = .ok (.ayDataR11 0x03) ∧
    decode 0b00001110010001000 ⟨none, 0⟩ = .ok (.ayDataR12 0x88) ∧
    decode 0b00001110100001110 ⟨none, 0⟩ = .ok (.ayDataR13 0x0E) ∧
    decode 0b00001111010001001 ⟨none, 0⟩ = .ok (.ayDataR14 0x89) ∧
    decode 0b00001111110001010 ⟨none, 0⟩ = .ok (.ayDataR15 0x8A) := by decide

theorem test_decode_sn_latch :
    decode 0b00100000010000011 ⟨none, 0⟩ = .ok (.snLatchTone0 0 false 3) ∧
    decode 0b00100000110101111 ⟨none, 0⟩ = .ok (.snLatchTone1 0 true 0xF) ∧
    decode 0b00100000011000100 ⟨none, 0⟩ = .ok (.snLatchTone2 0 false 4) ∧
    decode 0b00100001011100101 ⟨none, 0⟩ = .ok (.snLatchNoise 1 false 5) ∧
    decode 0b00100000110010000 ⟨none, 0⟩ = .ok (.snLatchVol0 0 true 0) ∧
    decode 0b00100010010111001 ⟨none, 0⟩ = .ok (.snLatchVol1 2 false 9) ∧
    decode 0b00100010111011010 ⟨none, 0⟩ = .ok (.snLatchVol2 2 true 0xA) ∧
    decode 0b00100011011111111 ⟨none, 0⟩ = .ok (.snLatchVol3 3 false 0xF) := by decide

theorem test_decode_sn_data :
    decode 0b00100000000000101 ⟨none, 0⟩ = .ok (.snDataTone0 5) ∧
    decode 0b00100001001111111 ⟨none, 0⟩ = .ok (.snDataTone1 0x7F) ∧
    decode 0b00100010000000000 ⟨none, 0⟩ = .ok (.snDataTone2 0) ∧
    decode 0b00100011000000011 ⟨none, 0⟩ = .ok (.snDataNoise 3) ∧
    decode 0b00100000101111100 ⟨none, 0⟩ = .ok (.snDataVol0 0x7C) ∧
    decode 0b00100001101000001 ⟨none, 0⟩ = .ok (.snDataVol1 0x41) ∧
    decode 0b00100010100000010 ⟨none, 0⟩ = .ok (.snDataVol2 2) ∧
    decode 0b00100011100000011 ⟨none, 0⟩ = .ok (.snDataVol3 3) := by decide

theorem test_decode_stereo_and_host :
    decode 0b01000000000110001 ⟨none, 0⟩ = .ok (.ggStereo 0x31) ∧
    decode 0b01100000000000000 ⟨none, 0⟩ = .ok .tick ∧
    decode 0b10000000000000000 ⟨none, 0⟩ = .ok .getSamples ∧
    decode 0b10100000000000011 ⟨some ⟨15, 3⟩, 0⟩ = .ok (.init 3 (some ⟨15, 3⟩)) ∧
    decode 0b10100000000000100 ⟨none, 0⟩ = .ok (.init 4 none) ∧
    decode 0b11000000000000000 ⟨none, 0⟩ = .ok .getClockDivisor ∧
    decode 0b11100000000000000 ⟨none, 48⟩ = .ok (.getSampleRate 48) := by decide

/-- The reserved words of V9. -/
theorem test_decode_reserved :
    decode 0x0C001 ⟨none, 0⟩ = .error .host ∧ decode 0x04800 ⟨none, 0⟩ = .error .snBus ∧
    decode 0x08100 ⟨none, 0⟩ = .error .stereo ∧ decode 0x14010 ⟨none, 0⟩ = .error .init := by decide

theorem test_encode_gives_the_vectors_words :
    encode (.ayDataR13 0x0E) = 0x01D0E ∧ encode (.ayAddrBadBit4 false 3 0) = 0x02310 ∧
    encode (.snLatchVol3 3 false 0xF) = 0x046FF ∧ encode (.snDataVol3 3) = 0x04703 ∧
    encode (.ggStereo 0x31) = 0x08031 ∧ encode (.init 3 none) = 0x14003 := by decide

theorem test_decodeTableWord :
    decodeTableWord 24 0x02007 = some (.ayAddr false 0 7) ∧
    decodeTableWord 24 0x1C000 = some (.getSampleRate 0) ∧
    decodeTableWord 24 0x0C001 = none ∧ decodeTableWord 24 0x20000 = none := by decide

/-! Small states and what a test reads of an answer. -/

/-- A chip right after `INIT` of the variant, without a noise-config. -/
def chipOf (v : Variant) : State := initialisedAs v defaultNoiseConfig []

/-- An `AY8910` whose bank is the reset bank changed by `f`. -/
def ayWith (f : AyBank → AyBank) : State := (chipOf (.ay .ay8910)).withAy (f ayReset)

/-- A `YM2149` whose bank is the reset bank changed by `f`. -/
def ymWith (f : AyBank → AyBank) : State := (chipOf (.ay .ym2149)).withAy (f ayReset)

/-- An `SN76489` of the default noise-config whose bank is the reset bank changed by `f`. -/
def snWith (f : SnBank → SnBank) : State := (chipOf (.sn .sn76489)).withSn (f (snReset 16))

/-- An `SN76489_GG` of the default noise-config whose bank is the reset bank changed by `f`. -/
def ggWith (f : SnBank → SnBank) : State := (chipOf (.sn .sn76489gg)).withSn (f (snReset 16))

/-- The state an answer gives, the reset state where it gives none. -/
def after : Answer → State
  | .next s => s
  | _ => State.reset

/-- Whether an answer is a next state. -/
def completes : Answer → Bool
  | .next _ => true
  | _ => false

/-- Why an answer is a refusal. -/
def refusal : Answer → Option Refusal
  | .refused r => some r
  | _ => none

/-- One step taken on one host call. -/
def call (c : HostCall) (s : State) : Answer := step (s.withCalls [c])

/-! The AY bus (V10). -/

theorem test_ay_data_dropped_while_inactive :
    completes (call (.ayd 0x55) (chipOf (.ay .ay8910))) = true ∧
    after (call (.ayd 0x55) (chipOf (.ay .ay8910))) = chipOf (.ay .ay8910) := by decide

theorem test_ay_address_selects :
    (after (call (.aya 0x07) (chipOf (.ay .ay8910)))).ay = { ayReset with active := true, addr := 7 } := by
  decide

theorem test_ay_data_writes_the_selected_register :
    (after (call (.ayd 0x38) (ayWith fun a => { a with active := true, addr := 7 }))).ay.regs =
      #v[0, 0, 0, 0, 0, 0, 0, 0x38, 0, 0, 0, 0, 0, 0, 0, 0] := by decide

theorem test_ay_bad_addresses :
    let s := ayWith fun a => { a with active := true, addr := 7 }
    (after (call (.aya 0x17) s)).diag = [.badAddress 0x17] ∧
    (after (call (.aya 0x17) s)).ay = { ayReset with addr := 7 } ∧
    (after (call (.aya 0x42) s)).diag = [.badAddress 0x42] ∧
    (after (call (.aya 0x20) s)).diag = [.badAddress 0x20] ∧
    (after (call (.aya 0xF7) s)).diag = [.badAddress 0xF7] := by decide

/-- V10 step 9: the high nibble of register 0xD is stored and ignored. -/
theorem test_ay_shape_write_rearms :
    let b := (after (call (.ayd 0xFE) (ayWith fun a =>
      { a with active := true, addr := 13, envLevel := 9, envHolding := true, envCnt := 3 }))).ay
    b.regs[13] = 0xFE ∧ b.envLevel = 0 ∧ b.envAttack = true ∧ b.envHolding = false ∧ b.envCnt = 3 ∧
    b.envCont = true ∧ b.envAtt = true ∧ b.envAlt = true ∧ b.envHold = false := by decide

theorem test_ym_shape_write_starts_a_decay_at_31 :
    (after (exec (.ayDataR13 0x08) (chipOf (.ay .ym2149)))).ay.envLevel = 31 := by decide

/-- Each data write stores to its own register (44_register_bus.md R114 to R129). -/
theorem test_ay_data_low_registers :
    (after (exec (.ayDataR0 1) (chipOf (.ay .ay8910)))).ay.regs[0] = 1 ∧
    (after (exec (.ayDataR1 2) (chipOf (.ay .ay8910)))).ay.regs[1] = 2 ∧
    (after (exec (.ayDataR2 3) (chipOf (.ay .ay8910)))).ay.regs[2] = 3 ∧
    (after (exec (.ayDataR3 4) (chipOf (.ay .ay8910)))).ay.regs[3] = 4 ∧
    (after (exec (.ayDataR4 5) (chipOf (.ay .ay8910)))).ay.regs[4] = 5 ∧
    (after (exec (.ayDataR5 6) (chipOf (.ay .ay8910)))).ay.regs[5] = 6 ∧
    (after (exec (.ayDataR6 0xE7) (chipOf (.ay .ay8910)))).ay.regs[6] = 0xE7 ∧
    (after (exec (.ayDataR7 8) (chipOf (.ay .ay8910)))).ay.regs[7] = 8 := by decide

theorem test_ay_data_high_registers :
    (after (exec (.ayDataR8 0xFF) (chipOf (.ay .ay8910)))).ay.regs[8] = 0xFF ∧
    (after (exec (.ayDataR9 2) (chipOf (.ay .ay8910)))).ay.regs[9] = 2 ∧
    (after (exec (.ayDataR10 3) (chipOf (.ay .ay8910)))).ay.regs[10] = 3 ∧
    (after (exec (.ayDataR11 4) (chipOf (.ay .ay8910)))).ay.regs[11] = 4 ∧
    (after (exec (.ayDataR12 5) (chipOf (.ay .ay8910)))).ay.regs[12] = 5 ∧
    (after (exec (.ayDataR14 6) (chipOf (.ay .ay8910)))).ay.regs[14] = 6 ∧
    (after (exec (.ayDataR15 7) (chipOf (.ay .ay8910)))).ay.regs[15] = 7 := by decide

/-! The SN bus (V11). -/

theorem test_sn_data_in_the_reset_context :
    (after (call (.snw 0x05) (chipOf (.sn .sn76489)))).sn.toneReg = #v[0x050, 0, 0] := by decide

theorem test_sn_latch_tones :
    (after (call (.snw 0xAF) (snWith fun b => { b with latchCh := 0, latchVol := true }))).sn =
      { snReset 16 with toneReg := #v[0, 0x00F, 0], latchCh := 1, latchVol := false } ∧
    (after (call (.snw 0x85) (snWith fun b => { b with toneReg := #v[0x120, 0, 0] }))).sn.toneReg =
      #v[0x125, 0, 0] ∧
    (after (call (.snw 0xC8) (snWith fun b => { b with latchCh := 3, latchVol := true }))).sn =
      { snReset 16 with toneReg := #v[0, 0, 0x008], latchCh := 2, latchVol := false } := by decide

theorem test_sn_latch_volumes :
    (after (call (.snw 0x9A) (chipOf (.sn .sn76489)))).sn =
      { snReset 16 with vol := #v[0xA, 0, 0, 0], latchVol := true } ∧
    (after (call (.snw 0xB5) (chipOf (.sn .sn76489)))).sn =
      { snReset 16 with vol := #v[0, 5, 0, 0], latchCh := 1, latchVol := true } ∧
    (after (call (.snw 0xD6) (chipOf (.sn .sn76489)))).sn =
      { snReset 16 with vol := #v[0, 0, 6, 0], latchCh := 2, latchVol := true } ∧
    (after (call (.snw 0xFF) (chipOf (.sn .sn76489)))).sn =
      { snReset 16 with vol := #v[0, 0, 0, 15], latchCh := 3, latchVol := true } := by decide

/-- V11 step 6: bit 6 of a tone data byte is ignored. -/
theorem test_sn_data_tones :
    (after (exec (.snDataTone0 0x12) (snWith fun b => { b with toneReg := #v[5, 0, 0] }))).sn.toneReg =
      #v[0x125, 0, 0] ∧
    (after (exec (.snDataTone1 0x7F) (snWith fun b => { b with toneReg := #v[0, 0xF, 0] }))).sn.toneReg =
      #v[0, 0x3FF, 0] ∧
    (after (exec (.snDataTone2 0x00) (snWith fun b => { b with toneReg := #v[0, 0, 0x3F4] }))).sn.toneReg =
      #v[0, 0, 4] := by decide

/-- V11 step 4: bits 6 to 4 of a volume data byte are ignored. -/
theorem test_sn_data_volumes :
    (after (exec (.snDataVol0 0x7C) (chipOf (.sn .sn76489)))).sn.vol = #v[0xC, 0, 0, 0] ∧
    (after (exec (.snDataVol1 0x03) (chipOf (.sn .sn76489)))).sn.vol = #v[0, 3, 0, 0] ∧
    (after (exec (.snDataVol2 0x14) (chipOf (.sn .sn76489)))).sn.vol = #v[0, 0, 4, 0] ∧
    (after (exec (.snDataVol3 0x0F) (chipOf (.sn .sn76489)))).sn.vol = #v[0, 0, 0, 15] := by decide

/-- V11 steps 8 and 9: three bits are kept, and the seed comes back only where the parameter says so. -/
theorem test_sn_noise_writes :
    (after (exec (.snLatchNoise 3 false 0xF) (chipOf (.sn .sn76489)))).sn.noiseReg = 7 ∧
    (after (exec (.snDataNoise 0x0E) (chipOf (.sn .sn76489)))).sn.noiseReg = 6 ∧
    writeNoiseReg true 16 5 { snReset 16 with lfsr := 3 } = { snReset 16 with noiseReg := 5 } ∧
    (writeNoiseReg false 16 5 { snReset 16 with lfsr := 3 }).lfsr = 3 := by decide

/-- V36. -/
theorem test_gg_stereo :
    (after (call (.ggst 0x31) (chipOf (.sn .sn76489gg)))).sn = { snReset 16 with stereo := 0x31 } ∧
    refusal (call (.ggst 0x00) (chipOf (.sn .sn76489))) = some .notGameGear ∧
    refusal (call (.ggst 0xFF) (chipOf (.ay .ay8910))) = some .notGameGear := by decide

/-! `TICK`. -/

/-- V12: a boundary, a count, and a lowered period. -/
theorem test_tick_ay_tone :
    ayToneTick 0 (ayReset) = { ayReset with toneOut := #v[true, false, false] } ∧
    (after (exec .tick (ayWith fun a => { a with
      regs := #v[3, 0, 0xFF, 0xFF, 0, 0, 0, 0, 0, 0, 0, 0, 0, 0, 0, 0],
      toneCnt := #v[5, 0xFFE, 0] }))).ay.toneCnt = #v[0, 0, 0] ∧
    (after (exec .tick (ayWith fun a => { a with
      regs := #v[3, 0, 2, 0, 0, 1, 0, 0, 0, 0, 0, 0, 0, 0, 0, 0],
      toneCnt := #v[1, 0, 0xFE] }))).ay.toneCnt = #v[2, 1, 0xFF] := by decide

/-- V16: ticks 2 and 4 of period 1, and shift 15. -/
theorem test_tick_ay_noise :
    ayNoiseTick { ayReset with noiseFlip := true } = { ayReset with lfsr := 0x10000 } ∧
    (after (exec .tick (ayWith fun a => { a with noiseFlip := true }))).ay.lfsr = 0x10000 ∧
    ayShifted 0x10000 = 0x08000 ∧ ayNoiseOutput 0x10000 = true ∧ ayShifted 0x00008 = 0x10004 ∧
    (ayNoiseTick (setAyReg 6 0xE3 { ayReset with noiseCnt := 1 })).noiseCnt = 2 := by decide

/-- V18 and V30: the counter kept by a re-arm, the largest `YM2149` period, a turnaround. -/
theorem test_tick_envelope :
    (after (exec .tick (ymWith fun a => { a with
      regs := #v[0, 0, 0, 0, 0, 0, 0, 0, 0, 0, 0, 0xFF, 0xFF, 0, 0, 0],
      envCnt := 65534, envLevel := 3, envAttack := true }))).ay.envLevel = 4 ∧
    (envTick .ym2149 (setAyReg 11 5 { ayReset with envCnt := 2 })).envCnt = 4 ∧
    (after (exec .tick (ayWith fun a =>
      { a with envLevel := 15, envAttack := true, envCont := true, envAlt := true }))).ay.envLevel = 15 ∧
    (envTick .ay8910 { ayReset with envLevel := 15, envAttack := true, envCont := true, envAlt := true }) =
      { ayReset with envLevel := 15, envCont := true, envAlt := true } ∧
    (after (exec .tick (chipOf (.ay .ay8910)))).ay.envHolding = true := by decide

/-- V14, V15: a reload, a count down, and a period of 0. -/
theorem test_tick_sn_tone :
    (after (exec .tick (snWith fun b => { b with
      toneReg := #v[3, 0, 3], toneCnt := #v[0, 3, 2], toneOut := #v[true, false, false] }))).sn.toneCnt = #v[3, 3, 1] ∧
    (after (exec .tick (snWith fun b => { b with
      toneReg := #v[3, 0, 3], toneCnt := #v[0, 3, 2], toneOut := #v[true, false, false] }))).sn.toneOut = #v[false, true, false] := by decide

/-- V17: the coupling to tone 2, the two modes, width 15, a mask without bit 0, width 1. -/
theorem test_tick_sn_noise :
    (after (exec .tick (snWith fun b => { b with noiseReg := 7, toneReg := #v[0, 0, 4] }))).sn.noiseCnt = 4 ∧
    (after (exec .tick (snWith fun b => { b with noiseReg := 7, toneReg := #v[0, 0, 4] }))).sn.lfsr =
      0x4000 ∧
    snShifted true 16 9 0x0008 = 0x8004 ∧ snShifted true 16 9 0x2001 = 0x9000 ∧
    snShifted false 16 9 0x0001 = 0x8000 ∧ snShifted true 15 3 0x4001 = 0x6000 ∧
    snShifted true 16 2 0x0001 = 0 ∧ snShifted true 1 1 0x1 = 0x1 := by decide

/-! `GET_SAMPLES`, over the open tables (V19, P1). -/

theorem test_ay_samples :
    (after (exec .getSamples (chipOf (.ay .ay8910)))).result = some (.mono 0 0 0) ∧
    (after (exec .getSamples (ayWith fun a => { a with
      regs := #v[0, 0, 0, 0, 0, 0, 0, 0x3F, 0x1F, 0x0A, 0x0F, 0, 0, 0, 0, 0], envLevel := 3 }))).result =
      some (.mono (envTable .ay8910 0 3) (volTable .ay8910 1 10) (volTable .ay8910 2 15)) :=
  ⟨rfl, rfl⟩

theorem test_sn_samples :
    (after (exec .getSamples (chipOf (.sn .sn76489)))).result =
      some (.stereo (Config.snMute + Config.snMute + Config.snMute + Config.snMute)
        (Config.snMute + Config.snMute + Config.snMute + Config.snMute)) ∧
    (after (exec .getSamples (ggWith fun b => { b with
      stereo := 0x12, vol := #v[0, 5, 10, 15], toneOut := #v[true, true, true] }))).result =
      some (.stereo (Config.snVolTable 0 + 0 + 0 + 0) (0 + Config.snVolTable 5 + 0 + 0)) :=
  ⟨rfl, rfl⟩

theorem test_gate_truth_table :
    gate (setAyReg 7 0x07 { ayReset with noiseOut := false }) 0 = false ∧
    gate (setAyReg 7 0x38 { ayReset with toneOut := #v[true, false, true] }) 1 = false ∧
    gate (setAyReg 7 0x38 { ayReset with toneOut := #v[true, false, true] }) 2 = true ∧
    gate (setAyReg 7 0x3F ayReset) 0 = true := by decide

/-! `INIT` and the queries (V37, V38). -/

theorem test_init :
    (after (exec (.init 2 (some ⟨15, 3⟩)) State.reset)).sn.lfsr = 0x4000 ∧
    (after (exec (.init 2 (some ⟨17, 0x1FFFF⟩)) State.reset)).sn.lfsr = 0x10000 ∧
    completes (exec (.init 0 (some ⟨0, 0⟩)) State.reset) = true ∧
    (after (exec (.init 2 none) (ayWith fun a => { a with envCnt := 9 }))).ay.envCnt = 0 := by decide

theorem test_init_refusals :
    refusal (exec (.init 2 (some ⟨0, 0⟩)) State.reset) = some .badNoiseConfig ∧
    refusal (exec (.init 2 (some ⟨18, 9⟩)) State.reset) = some .badNoiseConfig ∧
    refusal (exec (.init 2 (some ⟨16, 0x10000⟩)) State.reset) = some .badNoiseConfig ∧
    refusal (exec (.init 4 none) State.reset) = some .unknownVariant := by decide

theorem test_other_refusals :
    refusal (call .tick State.reset) = some .notInitialised ∧
    refusal (call .sample State.reset) = some .notInitialised ∧
    refusal (call (.aya 0x00) (chipOf (.sn .sn76489))) = some .wrongFamily ∧
    refusal (call (.snw 0x80) (chipOf (.ay .ym2149))) = some .wrongFamily ∧
    refusal (step { chipOf (.ay .ay8910) with pending := [⟨0x0C001, ⟨none, 0⟩⟩] }) =
      some .reservedWord := by decide

theorem test_clock_divisor :
    (after (exec .getClockDivisor (chipOf (.ay .ym2149)))).result = some (.divisor 8) ∧
    (after (exec .getClockDivisor (chipOf (.sn .sn76489gg)))).result = some (.divisor 16) := by decide

theorem test_sample_rate :
    (after (exec (.getSampleRate 2000000) (chipOf (.ay .ay8910)))).result = some (.rate 250000) ∧
    (after (exec (.getSampleRate 1789773) (chipOf (.ay .ym2149)))).result =
      some (.rate (mkRat 1789773 8)) ∧
    (after (exec (.getSampleRate 16) (chipOf (.sn .sn76489)))).result = some (.rate 1) := by decide

/-! The host's side. -/

theorem test_table_words_run_first_after_reset :
    completes (step (State.reset.withFetchWord 24 0x02007)) = true ∧
    (after (step (State.reset.withFetchWord 24 0x01D0E))).ay.regs[13] = 0x0E ∧
    (after (step (State.reset.withFetchWord 24 0x046FF))).sn.vol = #v[0, 0, 0, 15] ∧
    completes (step (State.reset.withFetchWord 24 0x08031)) = true ∧
    (after (step (State.reset.withFetchWord 24 0x14001))).variant = .ay .ym2149 ∧
    completes (step (State.reset.withFetchWord 24 0x0C000)) = true ∧
    completes (step (State.reset.withFetchWord 24 0x1C000)) = true := by decide

/-- The pseudo-operations (30_encoding.md R73): `SNTONE 0, 0x125`, `SNVOL 3, 3` and `SNNOISE 7` as bytes. -/
theorem test_pseudo_operations :
    snTone 0 0x125 = [.snw 0x85, .snw 0x12] ∧ snTone 2 0x3FF = [.snw 0xCF, .snw 0x3F] ∧
    snVol 3 3 = [.snw 0xF3] ∧ snNoise 7 = [.snw 0xE7] ∧ ticks 2 = [.tick, .tick] ∧
    ayw 0x07 0x3F = [.aya 0x07, .ayd 0x3F] := by decide

theorem test_shape_levels :
    shapeLevel 15 true true true false 16 = 15 ∧ shapeLevel 15 true true true false 40 = 8 ∧
    shapeLevel 15 true false true true 16 = 15 ∧ shapeLevel 31 false true false false 32 = 0 ∧
    shapeLevel 31 true false false false 72 = 23 := by decide

/-! Witnesses: for each obligation with hypotheses, a concrete state and operands that meet them all. -/

/-- The `AY8910` after `INIT`. -/
abbrev ay0 : State := chipOf (.ay .ay8910)

/-- The `SN76489_GG` after `INIT`. -/
abbrev gg0 : State := chipOf (.sn .sn76489gg)

theorem witness_DecodedWordsEncodeBack :
    decode 0x1FFFF ⟨none, 0⟩ = .error .host ∧
    decode 0x046FF ⟨none, 0⟩ = .ok (.snLatchVol3 3 false 0xF) := by decide

theorem witness_DecoderFollowsOpcodeTable :
    opcodeRows[0]? = some ⟨"AY_ADDR", [(4, 4, 0), (13, 4, 1)]⟩ ∧
    opcodeRows[43]? = some ⟨"GET_SAMPLE_RATE", [(0, 17, 114688)]⟩ ∧
    OpcodeRow.hits ⟨"AY_ADDR", [(4, 4, 0), (13, 4, 1)]⟩ 0x0200F = true ∧
    OpcodeRow.hits ⟨"AY_ADDR", [(4, 4, 0), (13, 4, 1)]⟩ 0x02010 = false := by decide

/-- Each reserved case at its boundary words. -/
theorem witness_ReservedWordsAreExactly :
    decode 0x04800 ⟨none, 0⟩ = .error .snBus ∧ decode 0x07FFF ⟨none, 0⟩ = .error .snBus ∧
    decode 0x08100 ⟨none, 0⟩ = .error .stereo ∧ decode 0x0BFFF ⟨none, 0⟩ = .error .stereo ∧
    decode 0x0C001 ⟨none, 0⟩ = .error .host ∧ decode 0x10001 ⟨none, 0⟩ = .error .host ∧
    decode 0x18001 ⟨none, 0⟩ = .error .host ∧ decode 0x1C001 ⟨none, 0⟩ = .error .host ∧
    decode 0x14010 ⟨none, 0⟩ = .error .init ∧ decode 0x17FFF ⟨none, 0⟩ = .error .init := by decide

theorem witness_StepRunsTheDecodedOperation :
    (ay0.withCalls [.aya 0x0D, .tick]).pending =
      (HostCall.aya 0x0D).toOp :: [HostCall.tick.toOp] ∧
    decode (formWord (ay0.withCalls [.aya 0x0D, .tick]) (HostCall.aya 0x0D).toOp.word)
      (HostCall.aya 0x0D).toOp.beside = .ok (.ayAddr false 0 0xD) := by decide

theorem witness_PlacedWordsAreRunExactly :
    decodeTableWord 24 0x01D0E = some (.ayDataR13 0x0E) ∧ ay0.initialised = true ∧
    ¬ (Instr.ayDataR13 0x0E).isInit := by decide

theorem witness_StepRefusesReservedWordsAndIdles :
    decode (formWord { ay0 with pending := [⟨0x0C001, ⟨none, 0⟩⟩] } 0x0C001) ⟨none, 0⟩ =
      .error .host ∧ ay0.pending = [] := by decide

/-- Each clause at the ends of its range of bytes. -/
theorem witness_BusBytesDecodeInTheLatchedContext :
    (15#8).toNat < 16 ∧ 16 ≤ (16#8).toNat ∧ 16 ≤ (255#8).toNat ∧ 128 ≤ (128#8).toNat ∧
    (127#8).toNat < 128 ∧ ay0.ay.active = false ∧
    (ayWith fun a => { a with active := true, addr := 15 }).ay.active = true := by decide

theorem witness_initialised_ay :
    ay0.initialised = true ∧ ay0.variant = .ay .ay8910 ∧
    (chipOf (.ay .ym2149)).variant = .ay .ym2149 := by decide

theorem witness_initialised_sn :
    gg0.initialised = true ∧ gg0.variant = .sn .sn76489gg ∧
    (chipOf (.sn .sn76489)).variant = .sn .sn76489 := by decide

/-- For the second clause of `AyAddressWriteSelects`: a data write to the last register completes. -/
theorem witness_AyAddressWriteSelects :
    completes (exec (ayDataWrites 0xFF)[(15 : Fin 16)] (after (exec (.ayAddr false 0 15) ay0))) = true := by
  decide

theorem witness_AyDataWriteStoresTheByte : (0 : Fin 16) ≠ 13 ∧ (15 : Fin 16) ≠ 13 := by decide

/-- Each clause at the meeting point of its range. -/
theorem witness_AyTickMovesTheTones :
    (tonePeriod ay0.ay 0).toNat ≤ ay0.ay.toneCnt[(0 : Chan)].toNat + 1 ∧
    (ayWith fun a => { a with regs := a.regs.set 0 2 }).ay.toneCnt[(0 : Chan)].toNat + 1 <
      (tonePeriod (ayWith fun a => { a with regs := a.regs.set 0 2 }).ay 0).toNat := by decide

theorem witness_AyTickMovesTheNoise :
    ay0.ay.regs[6].toNat % 32 ≤ ay0.ay.noiseCnt.toNat + 1 ∧ ay0.ay.noiseFlip = false ∧
    (ayWith fun a => { a with noiseFlip := true }).ay.noiseFlip = true ∧
    (ayWith fun a => { a with regs := a.regs.set 6 2 }).ay.noiseCnt.toNat + 1 <
      (ayWith fun a => { a with regs := a.regs.set 6 2 }).ay.regs[6].toNat % 32 := by decide

/-- A count, a boundary held, a boundary in the middle of a ramp, and a boundary at each extreme. -/
theorem witness_AyTickMovesTheEnvelope :
    ay0.ay.envCnt.toNat + 1 < (setAyReg 11 2 ay0.ay).regs[11].toNat + 256 * ay0.ay.regs[12].toNat ∧
    ay0.ay.regs[11].toNat + 256 * ay0.ay.regs[12].toNat ≤ ay0.ay.envCnt.toNat + 1 ∧
    (ayWith fun a => { a with envHolding := true }).ay.envHolding = true ∧
    ¬ (7#5 = 15) ∧ ¬ (7#5 = 0) ∧
    (ayWith fun a => { a with envLevel := 15, envAttack := true }).ay.envLevel = 15 ∧
    ay0.ay.envAttack = false ∧ ay0.ay.envLevel = 0 ∧ ay0.ay.envCont = false := by decide

theorem witness_LevelStepsByOneOrTerminates :
    envLevelStep .ym2149 { ayReset with envAttack := true, envLevel := 30 } =
      { ayReset with envAttack := true, envLevel := 31 } ∧
    envLevelStep .ay8910 { ayReset with envAttack := true, envLevel := 15 } =
      { ayReset with envAttack := true, envLevel := 0, envHolding := true } ∧
    envLevelStep .ay8910 { ayReset with envLevel := 1 } = ayReset ∧
    envLevelStep .ay8910 ayReset = { ayReset with envHolding := true } := by decide

/-- A tick of each family answers a next state. -/
theorem witness_tick_completes :
    exec .tick ay0 = .next (after (exec .tick ay0)) ∧
    exec .tick gg0 = .next (after (exec .tick gg0)) := ⟨rfl, rfl⟩

theorem witness_SnTickMovesTheTones :
    gg0.sn.toneReg[(1 : Chan)].toNat = 0 ∧
    (snWith fun b => { b with toneReg := #v[1, 0x3FF, 0] }).sn.toneReg[(0 : Chan)].toNat ≠ 0 ∧
    (snWith fun b => { b with toneCnt := #v[1, 2, 0] }).sn.toneCnt[(0 : Chan)].toNat ≤ 1 ∧
    1 < (snWith fun b => { b with toneCnt := #v[1, 2, 0] }).sn.toneCnt[(1 : Chan)].toNat := by decide

/-- Widths 1, 16 and 17, each rate field, each mode. -/
theorem witness_SnTickMovesTheNoise :
    NoiseFits (after (exec (.init 2 (some ⟨1, 1⟩)) State.reset)) ∧ NoiseFits gg0 ∧
    NoiseFits (after (exec (.init 3 (some ⟨17, 0x1FFFF⟩)) State.reset)) ∧
    gg0.sn.noiseCnt.toNat ≤ 1 ∧ 1 < (snWith fun b => { b with noiseCnt := 2 }).sn.noiseCnt.toNat ∧
    (3#3).toNat < 4 ∧ (3#3).toNat % 4 = 3 ∧ 4 ≤ (4#3).toNat ∧
    (4#3).toNat % 4 = (0 : Fin 3).val ∧ (6#3).toNat % 4 = (2 : Fin 3).val := by decide

theorem witness_AyGateFollowsTheFormula :
    (setAyReg 7 0x3F ayReset).regs[7].getLsbD 2 = true ∧
    (setAyReg 7 0x3F ayReset).regs[7].getLsbD 5 = true ∧ ayReset.regs[7].getLsbD 0 = false ∧
    ayReset.regs[7].getLsbD 3 = false := by decide

theorem witness_SampleQueryIsPure :
    exec .getSamples gg0 = .next (after (exec .getSamples gg0)) ∧
    exec .getSamples ay0 = .next (after (exec .getSamples ay0)) := ⟨rfl, rfl⟩

/-- Every disjunct of the premise of `InitResetsEverything`, at the ends of the legal widths. -/
theorem witness_InitResetsEverything :
    (∀ v : BitVec 4, v = 0 ∨ v = 1 ∨ v = 2 ∨ v = 3 →
      completes (exec (.init v none) State.reset) = true) ∧
    (1 ≤ 1 ∧ 1 ≤ 17 ∧ 1 < 2 ^ 1) ∧ (1 ≤ 17 ∧ 17 ≤ 17 ∧ 0x1FFFF < 2 ^ 17) ∧
    completes (exec (.init 2 (some ⟨1, 1⟩)) State.reset) = true := by decide

theorem witness_InitRefusesBadOperands :
    4 ≤ (4#4).toNat ∧ (2#4).toNat = 2 ∧ (3#4).toNat = 3 ∧ 0 < 1 ∧ 17 < 18 ∧ 2 ^ 16 ≤ 0x10000 := by decide

theorem witness_NothingRunsBeforeInit :
    State.reset.initialised = false ∧ ¬ Instr.tick.isInit ∧ ¬ (Instr.ggStereo 0).isInit := by decide

theorem witness_OtherChipsOperationsAreRefused :
    (Instr.ayAddr false 0 0).isAyBus ∧ (Instr.ayDataR15 0).isAyBus ∧
    (Instr.snLatchTone0 0 false 0).isSnBus ∧ (Instr.snDataVol3 0).isSnBus ∧
    (chipOf (.sn .sn76489)).variant ≠ .sn .sn76489gg ∧ ay0.variant ≠ .sn .sn76489gg := by decide

/-- For the frames: operations that are no `INIT` and complete on each family. -/
theorem witness_frames :
    ¬ (Instr.ayDataR0 5).isInit ∧ completes (exec (.ayDataR0 5) ay0) = true ∧
    ¬ (Instr.snDataTone0 5).isInit ∧ completes (exec (.snDataTone0 5) gg0) = true ∧
    Instr.ayDataR0 5 ≠ .tick ∧ completes (exec (.snDataNoise 5) gg0) = true := by decide

/-- Every kind of register is changed by some write. -/
theorem witness_RegistersChangeOnlyByTheirWrites :
    (after (exec (.ayDataR15 5) ay0)).ay.regs[(15 : Fin 16)] ≠ ay0.ay.regs[(15 : Fin 16)] ∧
    (after (exec (.snDataTone2 5) gg0)).sn.toneReg[(2 : Chan)] ≠ gg0.sn.toneReg[(2 : Chan)] ∧
    (after (exec (.snDataVol3 5) gg0)).sn.vol[(3 : Fin 4)] ≠ gg0.sn.vol[(3 : Fin 4)] ∧
    (after (exec (.snDataNoise 5) gg0)).sn.noiseReg ≠ gg0.sn.noiseReg ∧
    (after (exec (.ggStereo 5) gg0)).sn.stereo ≠ gg0.sn.stereo := by decide

/-- The first tick after `INIT` freezes the level, and a second keeps it frozen. -/
theorem witness_HoldingFreezesTheLevel :
    ay0.ay.envHolding = false ∧ (after (exec .tick ay0)).ay.envHolding = true ∧
    completes (exec .tick (after (exec .tick ay0))) = true := by decide

theorem witness_OnlyQueriesReturnValues :
    (after (exec .getClockDivisor ay0)).result ≠ none ∧ (after (exec .tick ay0)).result = none := by decide

/-- Two states that differ in their diagnostics and in nothing else. -/
theorem witness_DiagnosticsNeverMatter :
    SameButDiag (ay0.withCalls [.aya 0x42, .tick])
      { ay0.withCalls [.aya 0x42, .tick] with diag := [.badAddress 0x10] } := rfl

theorem witness_UnitStepsCommute : (0 : Chan) ≠ 2 := by decide

/-- A step from a state that meets the invariant, on each family. -/
theorem witness_EveryStepKeepsTheInvariant :
    Inv (ay0.withCalls [.tick]) ∧ completes (step (ay0.withCalls [.tick])) = true ∧
    Inv (gg0.withCalls [.snw 0x9F]) ∧ completes (step (gg0.withCalls [.snw 0x9F])) = true := by decide

theorem witness_ResetIsSoundAndAwaitsInit :
    completes (step (State.reset.withCalls [.init 3 none])) = true ∧
    completes (step (State.reset.withCalls [.tick])) = false := by decide

theorem witness_AyToneFlipsOncePerPeriod :
    ay0.ay.toneCnt[(2 : Chan)] = 0 ∧
    1 ≤ (tonePeriod (ayWith fun a => { a with regs := a.regs.set 4 1 }).ay 2).toNat := by decide

theorem witness_SnToneFlipsOncePerPeriod :
    1 ≤ (snWith fun b => { b with toneReg := #v[1, 0, 0x3FF], toneCnt := #v[1, 0, 0x3FF] }).sn.toneReg[(0 : Chan)].toNat ∧
    (snWith fun b => { b with toneReg := #v[1, 0, 0x3FF], toneCnt := #v[1, 0, 0x3FF] }).sn.toneCnt[(2 : Chan)] =
      0x3FF ∧ gg0.sn.toneReg[(1 : Chan)] = 0 := by decide

theorem witness_AyNoiseShiftsEveryTwoPeriods :
    ay0.ay.noiseCnt = 0 ∧ ay0.ay.noiseFlip = false := by decide

theorem witness_SnZeroRegisterIsAbsorbing :
    (0x10000#17 ≠ 0 ∧ (0x10000#17).toNat < 2 ^ 17 ∧ (9#17).getLsbD 0 = true) ∧
    (1#17 ≠ 0 ∧ (1#17).toNat < 2 ^ 1) := by decide

/-- The largest period that makes every tick a boundary, on each variant. -/
theorem witness_EnvelopeFollowsItsShape :
    exec (.ayDataR13 0x0E) ay0 = .next (after (exec (.ayDataR13 0x0E) ay0)) ∧
    (envPeriod (setAyReg 11 1 ay0.ay)).toNat ≤ envStep .ay8910 ∧
    (envPeriod (setAyReg 11 2 ay0.ay)).toNat ≤ envStep .ym2149 := ⟨rfl, by decide, by decide⟩

theorem witness_AyTablesNeverDecrease :
    (14#4).toNat < (15#4).toNat ∧ (14#5).toNat < (15#5).toNat ∧ (15#5).toNat ≤ (envMax .ay8910).toNat ∧
    (31#5).toNat ≤ (envMax .ym2149).toNat := by decide

theorem witness_AyTablesFollowProfileAndLoad : loadResistance 0 = loadResistance 0 := rfl

/-- A sequence that keeps the contract and changes the family, and one that breaks it at its end. -/
theorem witness_ContractDecidesWhetherARunIsRefused :
    keepsContract State.reset.chip [.init 1 none, .aya 0x42, .tick, .init 3 none, .ggst 0x31, .sample] =
      true ∧
    keepsContract ay0.chip [.tick, .snw 0x80] = false ∧ keepsContract State.reset.chip [.tick] = false := by
  decide

theorem witness_RestoredSnapshotContinuesAsSaved : [HostCall.tick] ≠ [] := by decide

/-- Each end of the two ranges of rows. -/
theorem witness_RepeatedWritesLeaveTheSameState :
    completes (exec (.ayAddr false 0 3) ay0) = true ∧ (Instr.ayAddr false 0 3).rowIndex = 0 ∧
    (Instr.ayDataInactive 0 3).rowIndex = 5 ∧ (Instr.ggStereo 3).rowIndex = 38 ∧
    completes (exec (.ggStereo 3) gg0) = true ∧ (Instr.ayDataR13 0).rowIndex = 19 := by decide

end Sys2Proof.Tests
end

section
/-! PROOFS. What a completing operation does to the AY bank, and the freeze flag of the envelope
(10_state.md R33, 43_envelope.md R105 to R107). -/

namespace Sys2Proof.Machine

/-- The one inversion of `exec` for the AY bank: an operation other than `INIT` keeps it, selects an
address, stores a byte, or ticks it. -/
theorem exec_ay_cases {i : Instr} {s t : State} (h : exec i s = .next t) (hi : ¬ i.isInit) :
    t.ay = s.ay ∨
    (i.rowIndex < 5 ∧ ∃ act addr, t.ay = { s.ay with active := act, addr := addr }) ∨
    (∃ m n d, s.variant = .ay m ∧ i = (ayDataWrites d)[(n : Fin 16)] ∧
      t.ay = storeAyReg m n d s.ay) ∨
    (∃ m, s.variant = .ay m ∧ i = .tick ∧ t.ay = ayTick m s.ay) := by
  cases i with
  | ayAddr =>
    obtain ⟨-, -, rfl⟩ := ayAddressWrite_eq_next.mp h
    exact .inr (.inl ⟨by simp [Instr.rowIndex], _, _, rfl⟩)
  | ayAddrBadBit7 | ayAddrBadBit6 | ayAddrBadBit5 | ayAddrBadBit4 =>
    obtain ⟨-, -, rfl⟩ := ayBadAddressWrite_eq_next.mp h
    exact .inr (.inl ⟨by simp [Instr.rowIndex], _, _, rfl⟩)
  | ayDataInactive lat d =>
    obtain ⟨-, -, rfl⟩ := (execAyDataInactive_eq_next (lat := lat) (d := d)).mp h
    exact .inl rfl
  | ayDataR0 d | ayDataR1 d | ayDataR2 d | ayDataR3 d | ayDataR4 d | ayDataR5 d | ayDataR6 d
  | ayDataR7 d | ayDataR8 d | ayDataR9 d | ayDataR10 d | ayDataR11 d | ayDataR12 d | ayDataR13 d
  | ayDataR14 d | ayDataR15 d =>
    obtain ⟨-, m, hv, rfl⟩ := ayDataWrite_eq_next.mp h
    -- At full transparency `rfl` would unfold `storeAyReg` before it finds the register's number.
    refine .inr (.inr (.inl ⟨m, _, d, hv, ?_, by with_reducible rfl⟩))
    rfl
  | snLatchTone0 | snLatchTone1 | snLatchTone2 =>
    obtain ⟨-, -, rfl⟩ := snLatchTone_eq_next.mp h
    exact .inl rfl
  | snLatchNoise lch lvol =>
    obtain ⟨-, -, rfl⟩ := (execSnLatchNoise_eq_next (lch := lch) (lvol := lvol)).mp h
    exact .inl rfl
  | snLatchVol0 | snLatchVol1 | snLatchVol2 | snLatchVol3 =>
    obtain ⟨-, -, rfl⟩ := snLatchVolume_eq_next.mp h
    exact .inl rfl
  | snDataTone0 | snDataTone1 | snDataTone2 =>
    obtain ⟨-, -, rfl⟩ := snDataTone_eq_next.mp h
    exact .inl rfl
  | snDataNoise =>
    obtain ⟨-, -, rfl⟩ := execSnDataNoise_eq_next.mp h
    exact .inl rfl
  | snDataVol0 | snDataVol1 | snDataVol2 | snDataVol3 =>
    obtain ⟨-, -, rfl⟩ := snDataVolume_eq_next.mp h
    exact .inl rfl
  | ggStereo =>
    obtain ⟨-, -, rfl⟩ := execGgStereo_eq_next.mp h
    exact .inl rfl
  | tick =>
    obtain ⟨-, ⟨m, hv, rfl⟩ | ⟨-, rfl⟩⟩ := execTick_eq_next.mp h
    · exact .inr (.inr (.inr ⟨m, hv, rfl, rfl⟩))
    · exact .inl rfl
  | getSamples =>
    obtain ⟨-, rfl⟩ := execGetSamples_eq_next.mp h
    exact .inl rfl
  | init => exact absurd rfl hi
  | getClockDivisor =>
    obtain ⟨-, rfl⟩ := execGetClockDivisor_eq_next.mp h
    exact .inl rfl
  | getSampleRate =>
    obtain ⟨-, rfl⟩ := execGetSampleRate_eq_next.mp h
    exact .inl rfl

theorem storeAyReg_of_ne {m : AyModel} {n : Fin 16} {d : Byte} {a : AyBank} (hn : n ≠ 13) :
    storeAyReg m n d a = setAyReg n d a := by
  simp [storeAyReg, hn]

section
variable {m : AyModel} {a : AyBank}

theorem envTick_of_holding (h : a.envHolding = true) :
    (envTick m a).envHolding = true ∧ (envTick m a).envLevel = a.envLevel := by
  simp only [envTick]
  split <;> simp [h]

/-- The two arms of the terminal rule that hold (43_envelope.md R107). -/
theorem envTerminal_envHolding :
    (envTerminal m a).envHolding = true ↔
      a.envCont = false ∨ a.envHold = true ∨ a.envHolding = true := by
  unfold envTerminal
  split
  next hc => simp [hc]
  next hc =>
    split
    next hh => simp [hh]
    next hh => split <;> simp [hc, hh]

theorem envLevelStep_starts_holding (h : a.envHolding = false)
    (ht : (envLevelStep m a).envHolding = true) :
    a.envLevel = (if a.envAttack then envMax m else 0) ∧
      (a.envCont = false ∨ a.envHold = true) := by
  have terminal (h' : (envTerminal m a).envHolding = true) :
      a.envCont = false ∨ a.envHold = true := by
    simpa [h] using envTerminal_envHolding.mp h'
  unfold envLevelStep at ht
  split at ht
  next up =>
    split at ht
    next top => exact ⟨by simp [up, top], terminal ht⟩
    next => simp [h] at ht
  next down =>
    split at ht
    next bottom => exact ⟨by simp [down, bottom], terminal ht⟩
    next => simp [h] at ht

theorem envTick_of_not_holding (h : a.envHolding = false) :
    envTick m a =
      if (envPeriod a).toNat ≤ a.envCnt.toNat + envStep m then
        envLevelStep m { a with envCnt := 0 }
      else { a with envCnt := BitVec.ofNat 16 (a.envCnt.toNat + envStep m) } := by
  simp only [envTick, h, if_true]

theorem envTick_starts_holding (h : a.envHolding = false)
    (ht : (envTick m a).envHolding = true) :
    (envPeriod a).toNat ≤ a.envCnt.toNat + envStep m ∧
      a.envLevel = (if a.envAttack then envMax m else 0) ∧
      (a.envCont = false ∨ a.envHold = true) := by
  rw [envTick_of_not_holding h] at ht
  split at ht
  next boundary => exact ⟨boundary, envLevelStep_starts_holding (a := { a with envCnt := 0 }) h ht⟩
  next => simp [h] at ht

theorem ayTick_of_holding (h : a.envHolding = true) :
    (ayTick m a).envHolding = true ∧ (ayTick m a).envLevel = a.envLevel := by
  simpa [ayTick] using envTick_of_holding (m := m)
    (a := ayNoiseTick (ayToneTick 2 (ayToneTick 1 (ayToneTick 0 a)))) (by simpa using h)

theorem ayTick_starts_holding (h : a.envHolding = false) (ht : (ayTick m a).envHolding = true) :
    (envPeriod a).toNat ≤ a.envCnt.toNat + envStep m ∧
      a.envLevel = (if a.envAttack then envMax m else 0) ∧
      (a.envCont = false ∨ a.envHold = true) := by
  simpa [envPeriod] using envTick_starts_holding (m := m)
    (a := ayNoiseTick (ayToneTick 2 (ayToneTick 1 (ayToneTick 0 a)))) (by simpa using h) ht

end

/-- Outside `INIT`, the freeze flag and the level are kept by all operations but two: a write to
register 0xD, which clears the flag, and a `TICK`. -/
theorem exec_freeze_cases {i : Instr} {s t : State} {m : AyModel} (h : exec i s = .next t)
    (hi : ¬ i.isInit) (hv : s.variant = .ay m) :
    (t.ay.envHolding = s.ay.envHolding ∧ t.ay.envLevel = s.ay.envLevel) ∨
    ((∃ d, i = .ayDataR13 d) ∧ t.ay.envHolding = false) ∨
    (i = .tick ∧ t.ay = ayTick m s.ay) := by
  obtain hay | ⟨-, act, addr, hay⟩ | ⟨m', n, d, -, rfl, hay⟩ | ⟨m', hv', rfl, hay⟩ :=
    exec_ay_cases h hi
  · exact .inl (by simp [hay])
  · exact .inl (by simp [hay])
  · by_cases hn : n = 13
    · subst hn
      exact .inr (.inl ⟨⟨d, rfl⟩, by simp [hay, storeAyReg]⟩)
    · exact .inl (by simp [hay, storeAyReg_of_ne hn])
  · cases hv.symm.trans hv'
    exact .inr (.inr ⟨rfl, hay⟩)

end Sys2Proof.Machine

open Sys2Proof Sys2Proof.Machine

/-- Settles O41, by the three things an operation can do to the freeze flag: keep it and the level,
clear it by the re-arm, or tick the envelope, which sets it only in the terminal rule. -/
theorem holdingFreezesTheLevel : Obligations.HoldingFreezesTheLevel := by
  intro i s t m h hi hv
  obtain ⟨hflag, hlevel⟩ | ⟨⟨d, rfl⟩, hclear⟩ | ⟨rfl, hay⟩ := exec_freeze_cases h hi hv
  case inl => exact ⟨fun hs _ => ⟨hflag.trans hs, hlevel⟩, fun hs ht => by simp [hflag, hs] at ht⟩
  case inr.inl => exact ⟨fun _ hne => absurd rfl (hne d), fun _ ht => by simp [hclear] at ht⟩
  case inr.inr =>
    rw [hay]
    exact ⟨fun hs _ => ayTick_of_holding hs, fun hs ht => ⟨rfl, ayTick_starts_holding hs ht⟩⟩
end

section
/-! PROOFS. The amplitude tables rise with their index (40_amplitude_table.md R79). -/

namespace Sys2Proof.Machine

/-- A climb adds a natural rise at every entry. -/
theorem tableClimb_monotone (p : Profile) (mode : TableMode) (load : ℝ) :
    Monotone (tableClimb p mode load) :=
  monotone_nat_of_le_succ fun i => Nat.le_add_right (tableClimb p mode load i) _

theorem tableEntry_monotone (p : Profile) (mode : TableMode) (load : ℝ) :
    Monotone (tableEntry p mode load) := by
  intro i j hij
  have climb : tableClimb p mode load i ≤ tableClimb p mode load j :=
    tableClimb_monotone p mode load hij
  unfold tableEntry
  omega

end Sys2Proof.Machine

open Sys2Proof Sys2Proof.Machine

/-- Settles O54: both tables read one non-decreasing sequence at the index. It never decreases past
`ENV_MAX` either, so the bound on the envelope's index is not used. -/
theorem ayTablesNeverDecrease : Obligations.AyTablesNeverDecrease := by
  intro m c
  exact ⟨fun _ _ hij => tableEntry_monotone _ _ _ hij.le,
    fun _ _ hij _ => tableEntry_monotone _ _ _ hij.le⟩
end

section
/-! PROOFS. The noise registers' shift, bit by bit (42_noise.md R95, R99). -/

namespace Sys2Proof.Machine

/-- Both families' shift: every bit is the old bit above it, and the feedback is OR-ed in at bit `k`. -/
theorem getLsbD_ushiftRight_or_feedback (x : BitVec 17) (fb : Bool) {k : Nat} (hk : k < 17) (i : Nat) :
    ((x >>> 1) ||| ((BitVec.ofBool fb).setWidth 17 <<< k)).getLsbD i =
      (x.getLsbD (i + 1) || (decide (i = k) && fb)) := by
  have entered : ((BitVec.ofBool fb).setWidth 17 <<< k).getLsbD i = (decide (i = k) && fb) := by
    by_cases hi : i = k
    · simp [hi, hk]
    · rcases Nat.lt_or_gt_of_ne hi with below | above
      · simp [hi, below]
      · simp [hi, Nat.sub_ne_zero_of_lt above, BitVec.getLsbD_ofBool]
  rw [BitVec.getLsbD_or, BitVec.getLsbD_ushiftRight, Nat.add_comm 1 i, entered]

theorem getLsbD_ayShifted (x : BitVec 17) (i : Nat) :
    (ayShifted x).getLsbD i = (x.getLsbD (i + 1) || (decide (i = 16) && ayFeedback x)) :=
  getLsbD_ushiftRight_or_feedback x (ayFeedback x) (by decide) i

/-- The shift vacates bit 16, so the feedback alone stands there. -/
theorem getLsbD_ayShifted_top (x : BitVec 17) : (ayShifted x).getLsbD 16 = ayFeedback x := by
  have vacated : x.getLsbD 17 = false := BitVec.getLsbD_of_ge x 17 le_rfl
  rw [getLsbD_ayShifted, vacated, Bool.false_or, decide_eq_true rfl, Bool.true_and]

theorem getLsbD_ayShifted_of_lt (x : BitVec 17) {i : Nat} (hi : i < 16) :
    (ayShifted x).getLsbD i = x.getLsbD (i + 1) := by
  simp [getLsbD_ayShifted, hi.ne]

end Sys2Proof.Machine

open Sys2Proof Sys2Proof.Machine

/-- Settles O22: the output and the frame are the shift's own definition; the register is read bit by
bit, at the vacated top and below it. -/
theorem ayShiftFeedsBackTwoTaps : Obligations.AyShiftFeedsBackTwoTaps := by
  intro a
  refine ⟨ayLfsrShift_noiseOut a, ?feedback, ?shift, rfl⟩
  case feedback => exact getLsbD_ayShifted_top a.lfsr
  case shift => exact fun i hi => getLsbD_ayShifted_of_lt a.lfsr hi
end

section
/-! PROOFS. The envelope's level step and the range of the level (43_envelope.md R106, R107). -/

namespace Sys2Proof.Machine

section
variable {m : AyModel} {a : AyBank}

theorem envLevelStep_of_rising (up : a.envAttack = true) (h : a.envLevel ≠ envMax m) :
    envLevelStep m a = { a with envLevel := a.envLevel + 1 } := by
  rw [envLevelStep, if_pos up, if_neg h]

theorem envLevelStep_of_top (up : a.envAttack = true) (h : a.envLevel = envMax m) :
    envLevelStep m a = envTerminal m a := by
  rw [envLevelStep, if_pos up, if_pos h]

theorem envLevelStep_of_falling (down : a.envAttack = false) (h : a.envLevel ≠ 0) :
    envLevelStep m a = { a with envLevel := a.envLevel - 1 } := by
  rw [envLevelStep, if_neg (by simp [down]), if_neg h]

theorem envLevelStep_of_bottom (down : a.envAttack = false) (h : a.envLevel = 0) :
    envLevelStep m a = envTerminal m a := by
  rw [envLevelStep, if_neg (by simp [down]), if_pos h]

theorem rampStart_le_envMax (att : Bool) : rampStart m att ≤ envMax m := by
  cases att
  case false => exact BitVec.le_refl _
  case true => exact Nat.zero_le _

/-- `ENV_MAX` is all ones in its low bits, so the mirrored level of R107 is in range when the level is. -/
theorem xor_envMax_le_envMax {l : BitVec 5} (h : l ≤ envMax m) : l ^^^ envMax m ≤ envMax m := by
  cases m
  case ay8910 =>
    have below : l.toNat < 2 ^ 4 := Nat.lt_succ_of_le h
    exact Nat.le_of_lt_succ (Nat.xor_lt_two_pow below (by decide : 15 < 2 ^ 4))
  case ym2149 => exact Nat.le_of_lt_succ (l ^^^ envMax .ym2149).isLt

theorem envTerminal_envLevel_le_envMax (h : a.envLevel ≤ envMax m) :
    (envTerminal m a).envLevel ≤ envMax m := by
  unfold envTerminal
  split
  next off => exact Nat.zero_le _
  next =>
    split
    next hold =>
      by_cases alt : a.envAlt
      · simpa [alt] using xor_envMax_le_envMax h
      · simpa [alt] using h
    next =>
      split
      next turn => exact h
      next restart => exact rampStart_le_envMax a.envAtt

theorem envLevelStep_envLevel_le_envMax (h : a.envLevel ≤ envMax m) :
    (envLevelStep m a).envLevel ≤ envMax m := by
  cases dir : a.envAttack
  case true =>
    by_cases top : a.envLevel = envMax m
    · rw [envLevelStep_of_top dir top]
      exact envTerminal_envLevel_le_envMax h
    · rw [envLevelStep_of_rising dir top]
      change a.envLevel + 1 ≤ envMax m
      bv_omega
  case false =>
    by_cases bottom : a.envLevel = 0
    · rw [envLevelStep_of_bottom dir bottom]
      exact envTerminal_envLevel_le_envMax h
    · rw [envLevelStep_of_falling dir bottom]
      change a.envLevel - 1 ≤ envMax m
      bv_omega

end

end Sys2Proof.Machine

open Sys2Proof Sys2Proof.Machine

/-- Settles O24: the four cases are the level step's equations by direction and extreme; the range is
kept by each of them, and by every arm of the terminal rule. -/
theorem levelStepsByOneOrTerminates : Obligations.LevelStepsByOneOrTerminates := by
  intro m a
  exact ⟨envLevelStep_of_rising, envLevelStep_of_top, envLevelStep_of_falling,
    envLevelStep_of_bottom, envLevelStep_envLevel_le_envMax⟩
end

section
/-! PROOFS. Address and data writes on the AY bus (44_register_bus.md R110, R113). -/

namespace Sys2Proof.Machine

/-- The sixteen data-write rows are one operation, each at its own register. -/
theorem exec_ayDataWrites (n : Fin 16) (d : Byte) (s : State) :
    exec (ayDataWrites d)[n] s = ayDataWrite n d s := by
  fin_cases n <;> rfl

section
variable (m : AyModel) (n : Fin 16) (d : Byte) (a : AyBank)

@[simp] theorem storeAyReg_active : (storeAyReg m n d a).active = a.active := by
  unfold storeAyReg
  split
  next rearm => rfl
  next store => rfl

@[simp] theorem storeAyReg_addr : (storeAyReg m n d a).addr = a.addr := by
  unfold storeAyReg
  split
  next rearm => rfl
  next store => rfl

end

end Sys2Proof.Machine

open Sys2Proof Sys2Proof.Machine

/-- Settles O10: `AY_ADDR` completes in the state its inversion names, the context bits unread; a data
write, to whichever register, is a store, which keeps `active` and the selection. -/
theorem ayAddressWriteSelects : Obligations.AyAddressWriteSelects := by
  refine ⟨?select, ?keep⟩
  case select =>
    intro s m act lat r hinit hv
    exact ⟨_, ayAddressWrite_eq_next.mpr ⟨hinit, ⟨m, hv⟩, rfl⟩, rfl⟩
  case keep =>
    intro n d t u h
    rw [exec_ayDataWrites] at h
    obtain ⟨-, m, -, rfl⟩ := ayDataWrite_eq_next.mp h
    exact ⟨storeAyReg_active m n d t.ay, storeAyReg_addr m n d t.ay⟩
end

section
/-! PROOFS. The AY mixer's gate (45_mixer.md R150). -/

namespace Sys2Proof.Machine

/-- Each term is one bit of register 7, by `T_c` and `N_c` of 10_state.md R26. -/
theorem gate_eq_register_bits (a : AyBank) (c : Chan) :
    gate a c = ((a.regs[7].getLsbD c.val || a.toneOut[c]) &&
      (a.regs[7].getLsbD (3 + c.val) || a.noiseOut)) :=
  rfl

section
variable {a : AyBank} {c : Chan}

theorem gate_of_both_set (tone : a.regs[7].getLsbD c.val = true)
    (noise : a.regs[7].getLsbD (3 + c.val) = true) : gate a c = true := by
  rw [gate_eq_register_bits, tone, noise, Bool.true_or, Bool.true_or, Bool.and_self]

theorem gate_of_both_clear (tone : a.regs[7].getLsbD c.val = false)
    (noise : a.regs[7].getLsbD (3 + c.val) = false) : gate a c = (a.toneOut[c] && a.noiseOut) := by
  rw [gate_eq_register_bits, tone, noise, Bool.false_or, Bool.false_or]

end

end Sys2Proof.Machine

open Sys2Proof Sys2Proof.Machine

/-- Settles O29: the gate's formula over the bits of register 7, and its values where both are set and
where both are clear. -/
theorem ayGateFollowsTheFormula : Obligations.AyGateFollowsTheFormula := by
  intro a c
  exact ⟨gate_eq_register_bits a c, gate_of_both_set, gate_of_both_clear⟩
end

section
/-! PROOFS. The fields of a word, the decoder and the encoder by format (30_encoding.md R58, R62 to
R64, R70). -/

namespace Sys2Proof

/-! The fields of a word as numbers. -/

theorem word_kind_lt (w : Word) : w.toNat / 2 ^ 14 < 8 := by
  have := w.isLt
  omega

theorem toNat_kind (w : Word) : (field w 14 3).toNat = w.toNat / 2 ^ 14 := by
  rw [toNat_field]
  exact Nat.mod_eq_of_lt (word_kind_lt w)

theorem field_eq_zero_iff (w : Word) (lo len : Nat) :
    field w lo len = 0 ↔ w.toNat / 2 ^ lo % 2 ^ len = 0 :=
  field_eq_iff w lo len 0

theorem flag_eq_iff (w : Word) (i : Nat) (b : Bool) :
    flag w i = b ↔ w.toNat / 2 ^ i % 2 = b.toNat := by
  rw [flag_eq]
  cases b <;> simp

theorem toNat_flag (w : Word) (i : Nat) : (flag w i).toNat = w.toNat / 2 ^ i % 2 :=
  ((flag_eq_iff w i (flag w i)).mp rfl).symm

theorem getLsbD_field {w : Word} {lo len i : Nat} (hi : i < len) :
    (field w lo len).getLsbD i = flag w (lo + i) := by
  simp [field, flag, hi]

theorem extractLsb'_field {w : Word} {lo len start n : Nat} (h : start + n ≤ len) :
    (field w lo len).extractLsb' start n = field w (lo + start) n := by
  apply BitVec.eq_of_getLsbD_eq
  intro i hi
  simp [field, hi, show start + i < len by omega, Nat.add_assoc]

theorem getLsbD_byte_eq_true_iff (byte : Byte) (i : Nat) :
    byte.getLsbD i = true ↔ byte.toNat / 2 ^ i % 2 = 1 := by
  rw [BitVec.getLsbD, Nat.testBit_eq_decide_div_mod_eq, decide_eq_true_iff]

theorem toNat_extractLsb'_byte (byte : Byte) (lo len : Nat) :
    (byte.extractLsb' lo len).toNat = byte.toNat / 2 ^ lo % 2 ^ len := by
  rw [BitVec.extractLsb'_toNat, Nat.shiftRight_eq_div_pow]

/-! The parts of the decoder that read a byte in a context. -/

/-- The operation of an AY address byte (30_encoding.md R62). -/
def ayAddressOf (act : Bool) (lat : BitVec 4) (byte : Byte) : Instr :=
  if byte.getLsbD 7 then .ayAddrBadBit7 act lat (byte.extractLsb' 0 7)
  else if byte.getLsbD 6 then .ayAddrBadBit6 act lat (byte.extractLsb' 0 6)
  else if byte.getLsbD 5 then .ayAddrBadBit5 act lat (byte.extractLsb' 0 5)
  else if byte.getLsbD 4 then .ayAddrBadBit4 act lat (byte.extractLsb' 0 4)
  else .ayAddr act lat (byte.extractLsb' 0 4)

/-- The operation of an AY data byte (30_encoding.md R62). -/
def ayDataByteOf (act : Bool) (lat : BitVec 4) (byte : Byte) : Instr :=
  if act then ayDataOf lat byte else .ayDataInactive lat byte

/-- The context of an SN data byte, `W[10:8]` (30_encoding.md R64). -/
def snContext (lch : BitVec 2) (lvol : Bool) : BitVec 3 :=
  BitVec.ofNat 3 (2 * lch.toNat + lvol.toNat)

/-- The operation of an SN byte in the latched context (30_encoding.md R63, R64). -/
def snByteOf (lch : BitVec 2) (lvol : Bool) (byte : Byte) : Instr :=
  if byte.getLsbD 7 then snLatchOf (byte.extractLsb' 4 3) lch lvol (byte.extractLsb' 0 4)
  else snDataOf (snContext lch lvol) (byte.extractLsb' 0 7)

theorem decodeAyBus_eq (w : Word) :
    decodeAyBus w =
      if flag w 13 then ayAddressOf (flag w 12) (field w 8 4) (field w 0 8)
      else ayDataByteOf (flag w 12) (field w 8 4) (field w 0 8) := by
  simp only [decodeAyBus, ayAddressOf, ayDataByteOf, getLsbD_field, extractLsb'_field, Nat.reduceLT,
    Nat.reduceLeDiff, Nat.zero_add]

theorem toNat_snContext (lch : BitVec 2) (lvol : Bool) :
    (snContext lch lvol).toNat = 2 * lch.toNat + lvol.toNat := by
  have := lch.isLt
  have := lvol.toNat_lt
  rw [snContext, BitVec.toNat_ofNat]
  omega

theorem decodeSnBus_eq (w : Word) :
    decodeSnBus w =
      if w.toNat / 2 ^ 11 % 2 ^ 3 = 0 then .ok (snByteOf (field w 9 2) (flag w 8) (field w 0 8))
      else .error .snBus := by
  have context : snContext (field w 9 2) (flag w 8) = field w 8 3 := by
    apply BitVec.eq_of_toNat_eq
    rw [toNat_snContext, toNat_field, toNat_field, toNat_flag]
    omega
  simp only [decodeSnBus, field_eq_zero_iff, snByteOf, getLsbD_field, extractLsb'_field, context,
    Nat.reduceLT, Nat.reduceLeDiff, Nat.zero_add, Nat.reduceAdd, apply_ite Except.ok]

/-! The decoder, one equation for each KIND. -/

section
variable {w : Word} {b : Beside}

theorem decode_of_kind_ayBus (h : w.toNat / 2 ^ 14 = 0) : decode w b = .ok (decodeAyBus w) := by
  simp only [decode, toNat_kind, h]

theorem decode_of_kind_snBus (h : w.toNat / 2 ^ 14 = 1) : decode w b = decodeSnBus w := by
  simp only [decode, toNat_kind, h]

theorem decode_of_kind_stereo (h : w.toNat / 2 ^ 14 = 2) :
    decode w b =
      if w.toNat / 2 ^ 8 % 2 ^ 6 = 0 then .ok (.ggStereo (field w 0 8)) else .error .stereo := by
  simp only [decode, toNat_kind, h, field_eq_zero_iff]

theorem decode_of_kind_init (h : w.toNat / 2 ^ 14 = 5) :
    decode w b =
      if w.toNat / 2 ^ 4 % 2 ^ 10 = 0 then .ok (.init (field w 0 4) b.noise)
      else .error .init := by
  simp only [decode, toNat_kind, h, field_eq_zero_iff]

/-- The four KINDs whose other bits are all zero (30_encoding.md R58). -/
theorem decode_of_kind_host {i : Instr}
    (h : w.toNat / 2 ^ 14 = 3 ∧ i = .tick ∨ w.toNat / 2 ^ 14 = 4 ∧ i = .getSamples ∨
      w.toNat / 2 ^ 14 = 6 ∧ i = .getClockDivisor ∨
      w.toNat / 2 ^ 14 = 7 ∧ i = .getSampleRate b.clockHz) :
    decode w b = if w.toNat % 2 ^ 14 = 0 then .ok i else .error .host := by
  rcases h with ⟨h, rfl⟩ | ⟨h, rfl⟩ | ⟨h, rfl⟩ | ⟨h, rfl⟩ <;>
    simp only [decode, toNat_kind, h, decodeHost, field_eq_zero_iff, Nat.pow_zero, Nat.div_one]

end

/-! The encodings, by format. -/

theorem encodeNat_ayAddressOf (act : Bool) (lat : BitVec 4) (byte : Byte) :
    encodeNat (ayAddressOf act lat byte) = ayBusNat true act lat byte.toNat := by
  have := byte.isLt
  simp only [ayAddressOf, getLsbD_byte_eq_true_iff]
  split_ifs <;> simp only [encodeNat, toNat_extractLsb'_byte] <;> congr 1 <;> omega

theorem encodeNat_ayDataOf (lat : BitVec 4) (d : Byte) :
    encodeNat (ayDataOf lat d) = ayBusNat false true lat d.toNat := by
  obtain ⟨n, rfl⟩ : ∃ n : Fin 16, lat = BitVec.ofFin n := ⟨lat.toFin, rfl⟩
  fin_cases n <;> rfl

theorem encodeNat_ayDataByteOf (act : Bool) (lat : BitVec 4) (byte : Byte) :
    encodeNat (ayDataByteOf act lat byte) = ayBusNat false act lat byte.toNat := by
  cases act
  case false => rfl
  case true => exact encodeNat_ayDataOf lat byte

theorem encodeNat_snLatchOf (chty : BitVec 3) (lch : BitVec 2) (lvol : Bool) (d : BitVec 4) :
    encodeNat (snLatchOf chty lch lvol d) = snBusNat lch lvol (128 + 16 * chty.toNat + d.toNat) := by
  obtain ⟨n, rfl⟩ : ∃ n : Fin 8, chty = BitVec.ofFin n := ⟨chty.toFin, rfl⟩
  fin_cases n <;> rfl

theorem encodeNat_snDataOf (lch : BitVec 2) (lvol : Bool) (d : BitVec 7) :
    encodeNat (snDataOf (snContext lch lvol) d) = snBusNat lch lvol d.toNat := by
  obtain ⟨n, rfl⟩ : ∃ n : Fin 4, lch = BitVec.ofFin n := ⟨lch.toFin, rfl⟩
  cases lvol <;> fin_cases n <;> rfl

theorem encodeNat_snByteOf (lch : BitVec 2) (lvol : Bool) (byte : Byte) :
    encodeNat (snByteOf lch lvol byte) = snBusNat lch lvol byte.toNat := by
  have := byte.isLt
  simp only [snByteOf, getLsbD_byte_eq_true_iff]
  split_ifs with latch
  · rw [encodeNat_snLatchOf, toNat_extractLsb'_byte, toNat_extractLsb'_byte]
    congr 1
    omega
  · rw [encodeNat_snDataOf, toNat_extractLsb'_byte]
    congr 1
    omega

/-! A bus word read back from its fields, and the operation it decodes to. -/

theorem ayBusNat_fields {w : Word} (h : w.toNat / 2 ^ 14 = 0) :
    ayBusNat (flag w 13) (flag w 12) (field w 8 4) (field w 0 8).toNat = w.toNat := by
  simp only [ayBusNat, toNat_flag, toNat_field]
  omega

theorem snBusNat_fields {w : Word} (h : w.toNat / 2 ^ 14 = 1) :
    snBusNat (field w 9 2) (flag w 8) (field w 0 8).toNat + (field w 11 3).toNat * 2 ^ 11 =
      w.toNat := by
  simp only [snBusNat, toNat_flag, toNat_field]
  omega

theorem encode_eq_of_encodeNat {i : Instr} {w : Word} (h : encodeNat i = w.toNat) : encode i = w := by
  rw [encode, h, BitVec.ofNat_toNat, BitVec.setWidth_eq]

theorem decode_ayBusNat (port act : Bool) (lat : BitVec 4) (byte : Byte) (b : Beside) :
    decode (BitVec.ofNat 17 (ayBusNat port act lat byte.toNat)) b =
      .ok (if port then ayAddressOf act lat byte else ayDataByteOf act lat byte) := by
  have hlat := lat.isLt
  have hbyte := byte.isLt
  have hact := act.toNat_lt
  have hport := port.toNat_lt
  have hword : (BitVec.ofNat 17 (ayBusNat port act lat byte.toNat)).toNat =
      port.toNat * 2 ^ 13 + act.toNat * 2 ^ 12 + lat.toNat * 2 ^ 8 + byte.toNat :=
    toNat_ofNat_word (by unfold ayBusNat; omega)
  rw [decode_of_kind_ayBus (by omega), decodeAyBus_eq,
    (flag_eq_iff _ 13 port).mpr (by omega), (flag_eq_iff _ 12 act).mpr (by omega),
    (field_eq_iff _ 8 4 lat).mpr (by omega), (field_eq_iff _ 0 8 byte).mpr (by omega)]

theorem decode_snBusNat (lch : BitVec 2) (lvol : Bool) (byte : Byte) (b : Beside) :
    decode (BitVec.ofNat 17 (snBusNat lch lvol byte.toNat)) b = .ok (snByteOf lch lvol byte) := by
  have hlch := lch.isLt
  have hbyte := byte.isLt
  have hlvol := lvol.toNat_lt
  have hword : (BitVec.ofNat 17 (snBusNat lch lvol byte.toNat)).toNat =
      1 * 2 ^ 14 + lch.toNat * 2 ^ 9 + lvol.toNat * 2 ^ 8 + byte.toNat :=
    toNat_ofNat_word (by unfold snBusNat; omega)
  rw [decode_of_kind_snBus (by omega), decodeSnBus_eq,
    (field_eq_iff _ 9 2 lch).mpr (by omega), (flag_eq_iff _ 8 lvol).mpr (by omega),
    (field_eq_iff _ 0 8 byte).mpr (by omega),
    if_pos (by omega)]

end Sys2Proof
end

section
/-! PROOFS. Every operation in its format, and the round trip between operations and words
(30_encoding.md R58, R68). -/

namespace Sys2Proof

/-! Every operation in its format. -/

theorem ayAddressOf_bit7 (act : Bool) (lat : BitVec 4) (low : BitVec 7) :
    ayAddressOf act lat (BitVec.ofNat 8 (128 + low.toNat)) = .ayAddrBadBit7 act lat low := by
  have := low.isLt
  simp only [ayAddressOf, getLsbD_byte_eq_true_iff, BitVec.toNat_ofNat]
  rw [if_pos (by omega)]
  congr 1
  exact BitVec.eq_of_toNat_eq (by rw [toNat_extractLsb'_byte, BitVec.toNat_ofNat]; omega)

theorem ayAddressOf_bit6 (act : Bool) (lat : BitVec 4) (low : BitVec 6) :
    ayAddressOf act lat (BitVec.ofNat 8 (64 + low.toNat)) = .ayAddrBadBit6 act lat low := by
  have := low.isLt
  simp only [ayAddressOf, getLsbD_byte_eq_true_iff, BitVec.toNat_ofNat]
  rw [if_neg (by omega), if_pos (by omega)]
  congr 1
  exact BitVec.eq_of_toNat_eq (by rw [toNat_extractLsb'_byte, BitVec.toNat_ofNat]; omega)

theorem ayAddressOf_bit5 (act : Bool) (lat : BitVec 4) (low : BitVec 5) :
    ayAddressOf act lat (BitVec.ofNat 8 (32 + low.toNat)) = .ayAddrBadBit5 act lat low := by
  have := low.isLt
  simp only [ayAddressOf, getLsbD_byte_eq_true_iff, BitVec.toNat_ofNat]
  rw [if_neg (by omega), if_neg (by omega), if_pos (by omega)]
  congr 1
  exact BitVec.eq_of_toNat_eq (by rw [toNat_extractLsb'_byte, BitVec.toNat_ofNat]; omega)

theorem ayAddressOf_bit4 (act : Bool) (lat : BitVec 4) (low : BitVec 4) :
    ayAddressOf act lat (BitVec.ofNat 8 (16 + low.toNat)) = .ayAddrBadBit4 act lat low := by
  have := low.isLt
  simp only [ayAddressOf, getLsbD_byte_eq_true_iff, BitVec.toNat_ofNat]
  rw [if_neg (by omega), if_neg (by omega), if_neg (by omega), if_pos (by omega)]
  congr 1
  exact BitVec.eq_of_toNat_eq (by rw [toNat_extractLsb'_byte, BitVec.toNat_ofNat]; omega)

theorem ayAddressOf_of_lt (act : Bool) (lat : BitVec 4) {byte : Byte} (h : byte.toNat < 16) :
    ayAddressOf act lat byte = .ayAddr act lat (byte.extractLsb' 0 4) := by
  simp only [ayAddressOf, getLsbD_byte_eq_true_iff]
  rw [if_neg (by omega), if_neg (by omega), if_neg (by omega), if_neg (by omega)]

theorem ayAddressOf_register (act : Bool) (lat r : BitVec 4) :
    ayAddressOf act lat (BitVec.ofNat 8 r.toNat) = .ayAddr act lat r := by
  have := r.isLt
  rw [ayAddressOf_of_lt act lat (by rw [BitVec.toNat_ofNat]; omega)]
  congr 1
  exact BitVec.eq_of_toNat_eq (by rw [toNat_extractLsb'_byte, BitVec.toNat_ofNat]; omega)

theorem snByteOf_latch (chty : BitVec 3) (lch : BitVec 2) (lvol : Bool) (d : BitVec 4) :
    snByteOf lch lvol (BitVec.ofNat 8 (128 + 16 * chty.toNat + d.toNat)) =
      snLatchOf chty lch lvol d := by
  have := chty.isLt
  have := d.isLt
  simp only [snByteOf, getLsbD_byte_eq_true_iff, BitVec.toNat_ofNat]
  rw [if_pos (by omega)]
  congr 1 <;> apply BitVec.eq_of_toNat_eq <;>
    rw [toNat_extractLsb'_byte, BitVec.toNat_ofNat] <;> omega

theorem snByteOf_data (lch : BitVec 2) (lvol : Bool) (d : BitVec 7) :
    snByteOf lch lvol (BitVec.ofNat 8 d.toNat) = snDataOf (snContext lch lvol) d := by
  have := d.isLt
  simp only [snByteOf, getLsbD_byte_eq_true_iff, BitVec.toNat_ofNat]
  rw [if_neg (by omega)]
  congr 1
  exact BitVec.eq_of_toNat_eq (by rw [toNat_extractLsb'_byte, BitVec.toNat_ofNat]; omega)

/-- An operation as its format gives it: a bus operation as its byte in a context, any other by its
name (30_encoding.md R58). -/
inductive Format : Instr → Prop where
  | ayAddress (act : Bool) (lat : BitVec 4) (byte : Byte) : Format (ayAddressOf act lat byte)
  | ayData (act : Bool) (lat : BitVec 4) (byte : Byte) : Format (ayDataByteOf act lat byte)
  | sn (lch : BitVec 2) (lvol : Bool) (byte : Byte) : Format (snByteOf lch lvol byte)
  | stereo (m : Byte) : Format (.ggStereo m)
  | tick : Format .tick
  | getSamples : Format .getSamples
  | init (v : BitVec 4) (noise : Option NoiseConfig) : Format (.init v noise)
  | getClockDivisor : Format .getClockDivisor
  | getSampleRate (clockHz : Nat) : Format (.getSampleRate clockHz)

theorem Format.snLatch (chty : BitVec 3) (lch : BitVec 2) (lvol : Bool) (d : BitVec 4) :
    Format (snLatchOf chty lch lvol d) :=
  snByteOf_latch chty lch lvol d ▸ .sn lch lvol _

theorem Format.snData (lch : BitVec 2) (lvol : Bool) (d : BitVec 7) :
    Format (snDataOf (snContext lch lvol) d) :=
  snByteOf_data lch lvol d ▸ .sn lch lvol _

/-- The rows of the opcode table, each in its format (30_encoding.md R68). -/
theorem Instr.format (i : Instr) : Format i := by
  cases i with
  | ayAddr act lat r => exact ayAddressOf_register act lat r ▸ .ayAddress act lat _
  | ayAddrBadBit7 act lat low => exact ayAddressOf_bit7 act lat low ▸ .ayAddress act lat _
  | ayAddrBadBit6 act lat low => exact ayAddressOf_bit6 act lat low ▸ .ayAddress act lat _
  | ayAddrBadBit5 act lat low => exact ayAddressOf_bit5 act lat low ▸ .ayAddress act lat _
  | ayAddrBadBit4 act lat low => exact ayAddressOf_bit4 act lat low ▸ .ayAddress act lat _
  | ayDataInactive lat byte => exact .ayData false lat byte
  | ayDataR0 d => exact .ayData true 0 d
  | ayDataR1 d => exact .ayData true 1 d
  | ayDataR2 d => exact .ayData true 2 d
  | ayDataR3 d => exact .ayData true 3 d
  | ayDataR4 d => exact .ayData true 4 d
  | ayDataR5 d => exact .ayData true 5 d
  | ayDataR6 d => exact .ayData true 6 d
  | ayDataR7 d => exact .ayData true 7 d
  | ayDataR8 d => exact .ayData true 8 d
  | ayDataR9 d => exact .ayData true 9 d
  | ayDataR10 d => exact .ayData true 10 d
  | ayDataR11 d => exact .ayData true 11 d
  | ayDataR12 d => exact .ayData true 12 d
  | ayDataR13 d => exact .ayData true 13 d
  | ayDataR14 d => exact .ayData true 14 d
  | ayDataR15 d => exact .ayData true 15 d
  | snLatchTone0 lch lvol d => exact .snLatch 0 lch lvol d
  | snLatchVol0 lch lvol d => exact .snLatch 1 lch lvol d
  | snLatchTone1 lch lvol d => exact .snLatch 2 lch lvol d
  | snLatchVol1 lch lvol d => exact .snLatch 3 lch lvol d
  | snLatchTone2 lch lvol d => exact .snLatch 4 lch lvol d
  | snLatchVol2 lch lvol d => exact .snLatch 5 lch lvol d
  | snLatchNoise lch lvol d => exact .snLatch 6 lch lvol d
  | snLatchVol3 lch lvol d => exact .snLatch 7 lch lvol d
  | snDataTone0 d => exact .snData 0 false d
  | snDataTone1 d => exact .snData 1 false d
  | snDataTone2 d => exact .snData 2 false d
  | snDataNoise d => exact .snData 3 false d
  | snDataVol0 d => exact .snData 0 true d
  | snDataVol1 d => exact .snData 1 true d
  | snDataVol2 d => exact .snData 2 true d
  | snDataVol3 d => exact .snData 3 true d
  | ggStereo m => exact .stereo m
  | tick => exact .tick
  | getSamples => exact .getSamples
  | init v noise => exact .init v noise
  | getClockDivisor => exact .getClockDivisor
  | getSampleRate clockHz => exact .getSampleRate clockHz

/-! What the decoder accepts. -/

section
variable {p : Prop} [Decidable p] {i j : Instr} {e f : Reserved}

theorem guarded_eq_ok_iff :
    ((if p then .ok i else .error e : Except Reserved Instr) = .ok j) ↔ p ∧ i = j := by
  split <;> simp [*]

theorem guarded_eq_error_iff :
    ((if p then .ok i else .error e : Except Reserved Instr) = .error f) ↔ ¬ p ∧ e = f := by
  split <;> simp [*]

end

/-- The rows of the decoder: the KIND, the bits that must be zero, and the operation. -/
theorem decode_eq_ok_iff {w : Word} {b : Beside} {i : Instr} :
    decode w b = .ok i ↔
      (w.toNat / 2 ^ 14 = 0 ∧ decodeAyBus w = i) ∨
      (w.toNat / 2 ^ 14 = 1 ∧ w.toNat / 2 ^ 11 % 2 ^ 3 = 0 ∧
        snByteOf (field w 9 2) (flag w 8) (field w 0 8) = i) ∨
      (w.toNat / 2 ^ 14 = 2 ∧ w.toNat / 2 ^ 8 % 2 ^ 6 = 0 ∧ .ggStereo (field w 0 8) = i) ∨
      (w.toNat / 2 ^ 14 = 5 ∧ w.toNat / 2 ^ 4 % 2 ^ 10 = 0 ∧ .init (field w 0 4) b.noise = i) ∨
      (w.toNat / 2 ^ 14 = 3 ∧ w.toNat % 2 ^ 14 = 0 ∧ .tick = i) ∨
      (w.toNat / 2 ^ 14 = 4 ∧ w.toNat % 2 ^ 14 = 0 ∧ .getSamples = i) ∨
      (w.toNat / 2 ^ 14 = 6 ∧ w.toNat % 2 ^ 14 = 0 ∧ .getClockDivisor = i) ∨
      (w.toNat / 2 ^ 14 = 7 ∧ w.toNat % 2 ^ 14 = 0 ∧ .getSampleRate b.clockHz = i) := by
  generalize hk : w.toNat / 2 ^ 14 = k
  have kind : k < 8 := hk ▸ word_kind_lt w
  interval_cases k
  · simp [decode_of_kind_ayBus hk]
  · simp [decode_of_kind_snBus hk, decodeSnBus_eq, guarded_eq_ok_iff]
  · simp [decode_of_kind_stereo hk, guarded_eq_ok_iff]
  · simp [decode_of_kind_host (.inl ⟨hk, rfl⟩), guarded_eq_ok_iff]
  · simp [decode_of_kind_host (.inr (.inl ⟨hk, rfl⟩)), guarded_eq_ok_iff]
  · simp [decode_of_kind_init hk, guarded_eq_ok_iff]
  · simp [decode_of_kind_host (.inr (.inr (.inl ⟨hk, rfl⟩))), guarded_eq_ok_iff]
  · simp [decode_of_kind_host (.inr (.inr (.inr ⟨hk, rfl⟩))), guarded_eq_ok_iff]

theorem encodeNat_decodeAyBus {w : Word} (h : w.toNat / 2 ^ 14 = 0) :
    encodeNat (decodeAyBus w) = w.toNat := by
  rw [decodeAyBus_eq, ← ayBusNat_fields h]
  split
  next port => rw [encodeNat_ayAddressOf, port]
  next port => rw [encodeNat_ayDataByteOf, Bool.eq_false_of_not_eq_true port]

end Sys2Proof

open Sys2Proof Sys2Proof.Machine

/-- Settles O1, format by format: a bus word is read back from its port, context and byte, any other
from its KIND and low bits. -/
theorem everyOperationDecodesFromItsWord : Obligations.EveryOperationDecodesFromItsWord := by
  intro i
  cases i.format with
  | ayAddress act lat byte =>
    rw [encode, encodeNat_ayAddressOf, decode_ayBusNat]
    rfl
  | ayData act lat byte =>
    rw [encode, encodeNat_ayDataByteOf, decode_ayBusNat]
    rfl
  | sn lch lvol byte => rw [encode, encodeNat_snByteOf, decode_snBusNat]
  | stereo m =>
    have hm := m.isLt
    have hword : (encode (.ggStereo m)).toNat = 2 * 2 ^ 14 + m.toNat :=
      toNat_ofNat_word (Laws.EncodeFits.ggStereo m).1
    rw [decode_of_kind_stereo (by omega), if_pos (by omega),
      (field_eq_iff _ 0 8 m).mpr (by omega)]
  | tick => rfl
  | getSamples => rfl
  | init v noise =>
    have hv := v.isLt
    have hword : (encode (.init v noise)).toNat = 5 * 2 ^ 14 + v.toNat :=
      toNat_ofNat_word (Laws.EncodeFits.init v noise).1
    rw [decode_of_kind_init (by omega), if_pos (by omega),
      (field_eq_iff _ 0 4 v).mpr (by omega)]
    rfl
  | getClockDivisor => rfl
  | getSampleRate clockHz => 
    have hword : (encode (.getSampleRate clockHz)).toNat = 7 * 2 ^ 14 := rfl
    rw [decode_of_kind_host (.inr (.inr (.inr ⟨by omega, rfl⟩))), if_pos (by omega)]
    rfl

/-- Settles O2, along what the decoder accepts: the encoding of each format puts the fields of the word
together again, the bits in no field being zero. -/
theorem decodedWordsEncodeBack : Obligations.DecodedWordsEncodeBack := by
  intro w b i h
  apply encode_eq_of_encodeNat
  obtain ⟨hk, rfl⟩ | ⟨hk, hz, rfl⟩ | ⟨hk, hz, rfl⟩ | ⟨hk, hz, rfl⟩ | ⟨hk, hz, rfl⟩ |
    ⟨hk, hz, rfl⟩ | ⟨hk, hz, rfl⟩ | ⟨hk, hz, rfl⟩ := decode_eq_ok_iff.mp h
  · exact encodeNat_decodeAyBus hk
  · rw [encodeNat_snByteOf, ← snBusNat_fields hk, toNat_field w 11 3, hz, Nat.zero_mul, Nat.add_zero]
  · rw [encodeNat, toNat_field]; omega
  · rw [encodeNat, toNat_field]; omega
  all_goals rw [encodeNat]; omega
end

section
/-! PROOFS. The decoder against the opcode table and the reserved words (30_encoding.md R68, R70). -/

namespace Sys2Proof

/-! The row of what a word decodes to. -/

theorem rowIndex_ayAddressOf (act : Bool) (lat : BitVec 4) (byte : Byte) :
    (ayAddressOf act lat byte).rowIndex =
      if byte.toNat / 2 ^ 7 % 2 = 1 then 1 else if byte.toNat / 2 ^ 6 % 2 = 1 then 2
      else if byte.toNat / 2 ^ 5 % 2 = 1 then 3 else if byte.toNat / 2 ^ 4 % 2 = 1 then 4 else 0 := by
  simp only [ayAddressOf, getLsbD_byte_eq_true_iff, apply_ite Instr.rowIndex]
  rfl

theorem rowIndex_ayDataOf (lat : BitVec 4) (d : Byte) :
    (ayDataOf lat d).rowIndex = 6 + lat.toNat := by
  obtain ⟨n, rfl⟩ : ∃ n : Fin 16, lat = BitVec.ofFin n := ⟨lat.toFin, rfl⟩
  fin_cases n <;> rfl

theorem rowIndex_ayDataByteOf (act : Bool) (lat : BitVec 4) (d : Byte) :
    (ayDataByteOf act lat d).rowIndex = if act then 6 + lat.toNat else 5 := by
  cases act
  case false => rfl
  case true => exact rowIndex_ayDataOf lat d

theorem rowIndex_snLatchOf (chty : BitVec 3) (lch : BitVec 2) (lvol : Bool) (d : BitVec 4) :
    (snLatchOf chty lch lvol d).rowIndex = 22 + 4 * (chty.toNat % 2) + chty.toNat / 2 := by
  obtain ⟨n, rfl⟩ : ∃ n : Fin 8, chty = BitVec.ofFin n := ⟨chty.toFin, rfl⟩
  fin_cases n <;> rfl

theorem rowIndex_snDataOf (ctx : BitVec 3) (d : BitVec 7) :
    (snDataOf ctx d).rowIndex = 30 + 4 * (ctx.toNat % 2) + ctx.toNat / 2 := by
  obtain ⟨n, rfl⟩ : ∃ n : Fin 8, ctx = BitVec.ofFin n := ⟨ctx.toFin, rfl⟩
  fin_cases n <;> rfl

theorem rowIndex_snByteOf (lch : BitVec 2) (lvol : Bool) (byte : Byte) :
    (snByteOf lch lvol byte).rowIndex =
      if byte.toNat / 2 ^ 7 % 2 = 1 then
        22 + 4 * (byte.toNat / 2 ^ 4 % 2) + byte.toNat / 2 ^ 5 % 4
      else 30 + 4 * lvol.toNat + lch.toNat := by
  have := byte.isLt
  have := lvol.toNat_lt
  simp only [snByteOf, getLsbD_byte_eq_true_iff]
  split
  · rw [rowIndex_snLatchOf, toNat_extractLsb'_byte]; omega
  · rw [rowIndex_snDataOf, toNat_snContext]; omega

theorem rowIndex_decodeAyBus (w : Word) :
    (decodeAyBus w).rowIndex =
      if w.toNat / 2 ^ 13 % 2 = 1 then
        if w.toNat / 2 ^ 7 % 2 = 1 then 1 else if w.toNat / 2 ^ 6 % 2 = 1 then 2
        else if w.toNat / 2 ^ 5 % 2 = 1 then 3 else if w.toNat / 2 ^ 4 % 2 = 1 then 4 else 0
      else if w.toNat / 2 ^ 12 % 2 = 1 then 6 + w.toNat / 2 ^ 8 % 2 ^ 4 else 5 := by
  simp only [decodeAyBus, flag_eq, decide_eq_true_eq, apply_ite Instr.rowIndex, rowIndex_ayDataOf,
    toNat_field]
  rfl

/-! The rows of the opcode table that share their fixed fields, and the words that match a row. -/

theorem hits_one_iff {row : OpcodeRow} {lo len v : Nat} (h : row.fixed = [(lo, len, v)]) (w : Word) :
    row.hits w = true ↔ w.toNat / 2 ^ lo % 2 ^ len = v := by
  simp [OpcodeRow.hits, h]

theorem hits_two_iff {row : OpcodeRow} {lo len v lo' len' v' : Nat}
    (h : row.fixed = [(lo, len, v), (lo', len', v')]) (w : Word) :
    row.hits w = true ↔ w.toNat / 2 ^ lo % 2 ^ len = v ∧ w.toNat / 2 ^ lo' % 2 ^ len' = v' := by
  simp [OpcodeRow.hits, h]

theorem ayDataRow_fixed {j : Nat} {row : OpcodeRow} (hj : j < 16)
    (h : ayBusRows[6 + j]? = some row) : row.fixed = [(8, 9, 16 + j)] := by
  interval_cases j <;> cases h <;> rfl

theorem snLatchRow_fixed {v c : Nat} {row : OpcodeRow} (hv : v < 2) (hc : c < 4)
    (h : snBusRows[4 * v + c]? = some row) :
    row.fixed = [(4, 4, 8 + 2 * c + v), (11, 6, 8)] := by
  interval_cases v <;> interval_cases c <;> cases h <;> rfl

theorem snDataRow_fixed {v c : Nat} {row : OpcodeRow} (hv : v < 2) (hc : c < 4)
    (h : snBusRows[8 + (4 * v + c)]? = some row) : row.fixed = [(7, 10, 128 + 4 * c + 2 * v)] := by
  interval_cases v <;> interval_cases c <;> cases h <;> rfl

/-! Each clause of the table takes a word apart into adjacent fields; the arithmetic is then about the
fields alone. -/

theorem hits_ayBusRow_iff {k : Nat} {row : OpcodeRow} (h : ayBusRows[k]? = some row) (w : Word) :
    row.hits w = true ↔ w.toNat / 2 ^ 14 = 0 ∧ (decodeAyBus w).rowIndex = k := by
  have hw := w.isLt
  have hk : k < 22 := (List.getElem?_eq_some_iff.mp h).1
  rw [rowIndex_decodeAyBus]
  have port : w.toNat / 2 ^ 13 % 2 ^ 4 = 2 * (w.toNat / 2 ^ 14) + w.toNat / 2 ^ 13 % 2 := by omega
  have act : w.toNat / 2 ^ 12 % 2 ^ 5 = 2 * (w.toNat / 2 ^ 13 % 2 ^ 4) + w.toNat / 2 ^ 12 % 2 := by
    omega
  rcases Nat.lt_or_ge k 6 with address | data
  · have bit6 : w.toNat / 2 ^ 6 % 2 ^ 2 = 2 * (w.toNat / 2 ^ 7 % 2) + w.toNat / 2 ^ 6 % 2 := by omega
    have bit5 : w.toNat / 2 ^ 5 % 2 ^ 3 = 2 * (w.toNat / 2 ^ 6 % 2 ^ 2) + w.toNat / 2 ^ 5 % 2 := by
      omega
    have bit4 : w.toNat / 2 ^ 4 % 2 ^ 4 = 2 * (w.toNat / 2 ^ 5 % 2 ^ 3) + w.toNat / 2 ^ 4 % 2 := by
      omega
    interval_cases k <;> cases h <;> split_ifs <;>
      simp only [OpcodeRow.hits, List.all_cons, List.all_nil, Bool.and_true, Bool.and_eq_true,
        beq_iff_eq, Nat.pow_one, port, act, bit6, bit5, bit4, and_true,
        and_false, iff_false, Nat.reduceEqDiff] <;>
      clear hw port act bit6 bit5 bit4 <;> omega
  · obtain ⟨j, rfl⟩ := Nat.exists_eq_add_of_le data
    rw [hits_one_iff (ayDataRow_fixed (by omega) h)]
    have lat : w.toNat / 2 ^ 8 % 2 ^ 9 = 16 * (w.toNat / 2 ^ 12 % 2 ^ 5) + w.toNat / 2 ^ 8 % 2 ^ 4 := by
      omega
    rw [lat, act, port]
    clear hw lat act port
    split_ifs <;> omega

theorem rowIndex_snByteOf_fields (w : Word) :
    (snByteOf (field w 9 2) (flag w 8) (field w 0 8)).rowIndex =
      if w.toNat / 2 ^ 7 % 2 = 1 then
        22 + 4 * (w.toNat / 2 ^ 4 % 2) + w.toNat / 2 ^ 5 % 2 ^ 2
      else 30 + 4 * (w.toNat / 2 ^ 8 % 2) + w.toNat / 2 ^ 9 % 2 ^ 2 := by
  have bit7 : w.toNat / 2 ^ 0 % 2 ^ 8 / 2 ^ 7 % 2 = w.toNat / 2 ^ 7 % 2 := by omega
  have type : w.toNat / 2 ^ 0 % 2 ^ 8 / 2 ^ 4 % 2 = w.toNat / 2 ^ 4 % 2 := by omega
  have channel : w.toNat / 2 ^ 0 % 2 ^ 8 / 2 ^ 5 % 4 = w.toNat / 2 ^ 5 % 2 ^ 2 := by omega
  rw [rowIndex_snByteOf, toNat_field, toNat_field, toNat_flag, bit7, type, channel]

theorem hits_snBusRow_iff {k : Nat} {row : OpcodeRow} (h : snBusRows[k]? = some row) (w : Word) :
    row.hits w = true ↔ w.toNat / 2 ^ 14 = 1 ∧ w.toNat / 2 ^ 11 % 2 ^ 3 = 0 ∧
      (snByteOf (field w 9 2) (flag w 8) (field w 0 8)).rowIndex = 22 + k := by
  have hk : k < 16 := (List.getElem?_eq_some_iff.mp h).1
  have hw := w.isLt
  have zeros : w.toNat / 2 ^ 11 % 2 ^ 6 = 8 * (w.toNat / 2 ^ 14) + w.toNat / 2 ^ 11 % 2 ^ 3 := by omega
  rw [rowIndex_snByteOf_fields]
  rcases Nat.lt_or_ge k 8 with latch | data
  · obtain ⟨v, c, hv, hc, rfl⟩ : ∃ v c, v < 2 ∧ c < 4 ∧ k = 4 * v + c :=
      ⟨k / 4, k % 4, by omega, by omega, by omega⟩
    have chty : w.toNat / 2 ^ 4 % 2 ^ 4 = 8 * (w.toNat / 2 ^ 7 % 2) +
      2 * (w.toNat / 2 ^ 5 % 2 ^ 2) + w.toNat / 2 ^ 4 % 2 := by omega
    rw [hits_two_iff (snLatchRow_fixed hv hc h), chty, zeros]
    clear hw zeros chty
    split_ifs <;> omega
  · obtain ⟨v, c, hv, hc, rfl⟩ : ∃ v c, v < 2 ∧ c < 4 ∧ k = 8 + (4 * v + c) :=
      ⟨(k - 8) / 4, k % 4, by omega, by omega, by omega⟩
    have context : w.toNat / 2 ^ 7 % 2 ^ 10 = 16 * (w.toNat / 2 ^ 11 % 2 ^ 6) +
      4 * (w.toNat / 2 ^ 9 % 2 ^ 2) + 2 * (w.toNat / 2 ^ 8 % 2) + w.toNat / 2 ^ 7 % 2 := by omega
    rw [hits_one_iff (snDataRow_fixed hv hc h), context, zeros]
    clear hw zeros context
    split_ifs <;> omega

theorem rowIndex_decodeAyBus_lt (w : Word) : (decodeAyBus w).rowIndex < 22 := by
  rw [rowIndex_decodeAyBus]; split_ifs <;> omega

theorem rowIndex_snByteOf_bounds (lch : BitVec 2) (lvol : Bool) (byte : Byte) :
    22 ≤ (snByteOf lch lvol byte).rowIndex ∧ (snByteOf lch lvol byte).rowIndex < 38 := by
  have := lch.isLt
  have := lvol.toNat_lt
  rw [rowIndex_snByteOf]; split_ifs <;> omega

theorem opcodeRows_getElem?_eq_some {k : Nat} {row : OpcodeRow} (h : opcodeRows[k]? = some row) :
    (k < 22 ∧ ayBusRows[k]? = some row) ∨ (22 ≤ k ∧ k < 38 ∧ snBusRows[k - 22]? = some row) ∨
      (38 ≤ k ∧ (stereoRows ++ hostRows)[k - 38]? = some row) := by
  rw [opcodeRows, List.append_assoc, List.getElem?_append, List.getElem?_append,
    show (ayBusRows ++ snBusRows).length = 38 from rfl, show ayBusRows.length = 22 from rfl] at h
  split_ifs at h with h₂ h₁
  · exact .inl ⟨h₁, h⟩
  · exact .inr (.inl ⟨Nat.le_of_not_lt h₁, h₂, h⟩)
  · exact .inr (.inr ⟨Nat.le_of_not_lt h₂, h⟩)

/-- A word decodes to an operation of row `k`, by the KIND `k` belongs to. -/
theorem exists_decode_row_iff {w : Word} {b : Beside} {k : Nat} :
    (∃ i, decode w b = .ok i ∧ i.rowIndex = k) ↔
      (w.toNat / 2 ^ 14 = 0 ∧ (decodeAyBus w).rowIndex = k) ∨
      (w.toNat / 2 ^ 14 = 1 ∧ w.toNat / 2 ^ 11 % 2 ^ 3 = 0 ∧
        (snByteOf (field w 9 2) (flag w 8) (field w 0 8)).rowIndex = k) ∨
      (w.toNat / 2 ^ 14 = 2 ∧ w.toNat / 2 ^ 8 % 2 ^ 6 = 0 ∧ 38 = k) ∨
      (w.toNat / 2 ^ 14 = 5 ∧ w.toNat / 2 ^ 4 % 2 ^ 10 = 0 ∧ 41 = k) ∨
      (w.toNat / 2 ^ 14 = 3 ∧ w.toNat % 2 ^ 14 = 0 ∧ 39 = k) ∨
      (w.toNat / 2 ^ 14 = 4 ∧ w.toNat % 2 ^ 14 = 0 ∧ 40 = k) ∨
      (w.toNat / 2 ^ 14 = 6 ∧ w.toNat % 2 ^ 14 = 0 ∧ 42 = k) ∨
      (w.toNat / 2 ^ 14 = 7 ∧ w.toNat % 2 ^ 14 = 0 ∧ 43 = k) := by
  simp only [decode_eq_ok_iff, or_and_right, and_assoc, exists_or, exists_and_left, exists_eq_left']
  rfl

end Sys2Proof

open Sys2Proof Sys2Proof.Machine

/-- Settles O3: the rows of each bus are matched by the fields the decoder splits on; the six others are
compared one by one. -/
theorem decoderFollowsOpcodeTable : Obligations.DecoderFollowsOpcodeTable := by
  refine ⟨rfl, fun w b k row hrow => ?_⟩
  rw [exists_decode_row_iff]
  have ay := rowIndex_decodeAyBus_lt w
  have sn := rowIndex_snByteOf_bounds (field w 9 2) (flag w 8) (field w 0 8)
  obtain ⟨hk, hrow⟩ | ⟨hlo, hhi, hrow⟩ | ⟨hk, hrow⟩ := opcodeRows_getElem?_eq_some hrow
  · have other : (snByteOf (field w 9 2) (flag w 8) (field w 0 8)).rowIndex ≠ k := by omega
    have later : 38 ≠ k ∧ 39 ≠ k ∧ 40 ≠ k ∧ 41 ≠ k ∧ 42 ≠ k ∧ 43 ≠ k := by omega
    simp only [hits_ayBusRow_iff hrow, other, later, and_false, or_false]
  · have other : (decodeAyBus w).rowIndex ≠ k := by omega
    have later : 38 ≠ k ∧ 39 ≠ k ∧ 40 ≠ k ∧ 41 ≠ k ∧ 42 ≠ k ∧ 43 ≠ k := by omega
    simp only [hits_snBusRow_iff hrow, Nat.add_sub_cancel' hlo, other, later, and_false, or_false,
      false_or]
  · have hj : k - 38 < 6 := (List.getElem?_eq_some_iff.mp hrow).1
    have bus : (decodeAyBus w).rowIndex ≠ k ∧
        (snByteOf (field w 9 2) (flag w 8) (field w 0 8)).rowIndex ≠ k := by omega
    have hk' : k < 44 := by omega
    simp only [bus, and_false, false_or]
    clear ay sn bus
    have := w.isLt
    interval_cases k <;> cases hrow <;> simp [OpcodeRow.hits] <;> omega

/-- Settles O4, KIND by KIND: each KIND but the AY bus has one guard on its zero bits, and one name. -/
theorem reservedWordsAreExactly : Obligations.ReservedWordsAreExactly := by
  intro w b
  generalize hk : w.toNat / 2 ^ 14 = k
  have kind : k < 8 := hk ▸ word_kind_lt w
  interval_cases k
  · simp [decode_of_kind_ayBus hk]
  · simp [decode_of_kind_snBus hk, decodeSnBus_eq, guarded_eq_error_iff]
  · simp [decode_of_kind_stereo hk, guarded_eq_error_iff]
  · simp [decode_of_kind_host (.inl ⟨hk, rfl⟩), guarded_eq_error_iff]
  · simp [decode_of_kind_host (.inr (.inl ⟨hk, rfl⟩)), guarded_eq_error_iff]
  · simp [decode_of_kind_init hk, guarded_eq_error_iff]
  · simp [decode_of_kind_host (.inr (.inr (.inl ⟨hk, rfl⟩))), guarded_eq_error_iff]
  · simp [decode_of_kind_host (.inr (.inr (.inr ⟨hk, rfl⟩))), guarded_eq_error_iff]

/-- Settles O5: the decoder evaluated on fifteen closed words. -/
theorem sampleWordsReadRight : Obligations.SampleWordsReadRight := by
  unfold Obligations.SampleWordsReadRight
  decide
end

section
/-! PROOFS. The word a step forms, what a step runs, and the placing of a word (30_encoding.md R59,
20_memory.md R52). -/

namespace Sys2Proof.Machine

/-! The word the decoder forms. -/

section
variable {s : State} {w : Word}

theorem formWord_of_kind_ayBus (h : w.toNat / 2 ^ 14 = 0) :
    formWord s w =
      BitVec.ofNat 17 (ayBusNat (flag w 13) s.ay.active s.ay.addr (field w 0 8).toNat) := by
  simp only [formWord, toNat_kind, h]

theorem formWord_of_kind_snBus (h : w.toNat / 2 ^ 14 = 1) :
    formWord s w =
      BitVec.ofNat 17 (snBusNat s.sn.latchCh s.sn.latchVol (field w 0 8).toNat +
        (field w 11 3).toNat * 2 ^ 11) := by
  simp only [formWord, toNat_kind, h]

theorem formWord_of_kind_ge (h : 2 ≤ w.toNat / 2 ^ 14) : formWord s w = w := by
  rw [formWord, toNat_kind]
  split
  next hk => omega
  next hk => omega
  next => rfl

theorem formWord_withContextOf (w : Word) (s : State) : formWord (withContextOf w s) w = w := by
  obtain hk | hk | hk : w.toNat / 2 ^ 14 = 0 ∨ w.toNat / 2 ^ 14 = 1 ∨ 2 ≤ w.toNat / 2 ^ 14 := by
    omega
  · simp only [formWord_of_kind_ayBus hk, withContextOf, toNat_kind, hk, withAy_ay,
      ayBusNat_fields hk, BitVec.ofNat_toNat, BitVec.setWidth_eq]
  · simp only [formWord_of_kind_snBus hk, withContextOf, toNat_kind, hk, withSn_sn,
      snBusNat_fields hk, BitVec.ofNat_toNat, BitVec.setWidth_eq]
  · exact formWord_of_kind_ge hk

end

/-! What a step does. -/

section
variable {s : State} {op : HostOp} {rest : List HostOp}

theorem step_of_pending (h : s.pending = op :: rest) :
    step s = runCall op { s with pending := rest } := by
  simp only [step, h]

theorem step_of_idle (h : s.pending = []) : step s = .next s := by
  simp only [step, h]

theorem runCall_of_decode {i : Instr} (h : decode (formWord s op.word) op.beside = .ok i) :
    runCall op s = exec i s := by
  simp only [runCall, h]

theorem runCall_of_reserved {e : Reserved} (h : decode (formWord s op.word) op.beside = .error e) :
    runCall op s = .refused .reservedWord := by
  simp only [runCall, h]

end

/-! The placing of a word. -/

section
variable (w : Word) (s : State)

@[simp] theorem withContextOf_initialised : (withContextOf w s).initialised = s.initialised := by
  unfold withContextOf; split <;> rfl

@[simp] theorem withContextOf_variant : (withContextOf w s).variant = s.variant := by
  unfold withContextOf; split <;> rfl

@[simp] theorem withContextOf_pending : (withContextOf w s).pending = s.pending := by
  unfold withContextOf; split <;> rfl

@[simp] theorem bootedFor_pending : (bootedFor w s).pending = s.pending := by
  unfold bootedFor; split <;> [rfl; split <;> rfl]

theorem bootedFor_of_initialised {s : State} (h : s.initialised = true) : bootedFor w s = s := by
  rw [bootedFor, if_pos h]

theorem bootedFor_initialised {w : Word} (h : w.toNat / 2 ^ 14 ≠ 5) :
    (bootedFor w s).initialised = true := by
  unfold bootedFor
  split
  next hs => exact hs
  next =>
    have booted : bootVariant w ≠ none := by
      unfold bootVariant
      split <;> simp_all [toNat_kind]
    split
    next => rfl
    next hnone => exact absurd hnone booted

theorem step_placeWord :
    step (placeWord w s) = runCall ⟨w, ⟨none, 0⟩⟩ (withContextOf w (bootedFor w s)) :=
  step_of_pending rfl

end

/-! The words of the bus calls. -/

section
variable (s : State) (byte : Byte) (b : Beside)

theorem decode_aya :
    decode (formWord s (HostCall.aya byte).toOp.word) b =
      .ok (ayAddressOf s.ay.active s.ay.addr byte) := by
  have hbyte := byte.isLt
  have hword : (HostCall.aya byte).toOp.word.toNat = 0x2000 + byte.toNat :=
    toNat_ofNat_word (by omega)
  rw [formWord_of_kind_ayBus (by omega), (flag_eq_iff _ 13 true).mpr (by simp; omega),
    (field_eq_iff _ 0 8 byte).mpr (by omega), decode_ayBusNat]
  rfl

theorem decode_ayd :
    decode (formWord s (HostCall.ayd byte).toOp.word) b =
      .ok (ayDataByteOf s.ay.active s.ay.addr byte) := by
  have hbyte := byte.isLt
  have hword : (HostCall.ayd byte).toOp.word.toNat = byte.toNat := toNat_ofNat_word (by omega)
  rw [formWord_of_kind_ayBus (by omega), (flag_eq_iff _ 13 false).mpr (by simp; omega),
    (field_eq_iff _ 0 8 byte).mpr (by omega), decode_ayBusNat]
  rfl

theorem decode_snw :
    decode (formWord s (HostCall.snw byte).toOp.word) b =
      .ok (snByteOf s.sn.latchCh s.sn.latchVol byte) := by
  have hbyte := byte.isLt
  have hword : (HostCall.snw byte).toOp.word.toNat = 0x4000 + byte.toNat :=
    toNat_ofNat_word (by omega)
  rw [formWord_of_kind_snBus (by omega), toNat_field _ 11 3,
    show (HostCall.snw byte).toOp.word.toNat / 2 ^ 11 % 2 ^ 3 = 0 by omega,
    (field_eq_iff _ 0 8 byte).mpr (by omega), Nat.zero_mul, Nat.add_zero, decode_snBusNat]

end

theorem ayDataOf_eq_getElem (lat : BitVec 4) (d : Byte) :
    ayDataOf lat d = (ayDataWrites d)[lat.toNat]'(by have := lat.isLt; omega) := by
  obtain ⟨n, rfl⟩ : ∃ n : Fin 16, lat = BitVec.ofFin n := ⟨lat.toFin, rfl⟩
  fin_cases n <;> rfl

end Sys2Proof.Machine

open Sys2Proof Sys2Proof.Machine

/-- Settles O6, by the equations of `step` and of `runCall`. -/
theorem stepRunsTheDecodedOperation : Obligations.StepRunsTheDecodedOperation :=
  fun _ _ _ _ hp hd => (step_of_pending hp).trans (runCall_of_decode hd)

/-- Settles O8, by the equations of `step` and of `runCall`. -/
theorem stepRefusesReservedWordsAndIdles : Obligations.StepRefusesReservedWordsAndIdles :=
  ⟨fun _ _ _ _ hp hd => (step_of_pending hp).trans (runCall_of_reserved hd),
    fun _ hp => step_of_idle hp⟩

/-- Settles O7: the placing sets the context that makes the formed word the placed one, and boots for
every KIND but that of `INIT`. -/
theorem placedWordsAreRunExactly : Obligations.PlacedWordsAreRunExactly := by
  intro s nbits w i h
  have hdecode : decode (BitVec.ofNat 17 w) ⟨none, 0⟩ = .ok i := by
    unfold decodeTableWord at h
    split at h <;> [skip; cases h]
    split at h <;> cases h
    assumption
  refine ⟨withContextOf (BitVec.ofNat 17 w) (bootedFor (BitVec.ofNat 17 w) s), ?runs, ?waits, ?boots,
    ?keeps⟩
  case runs =>
    rw [State.withFetchWord, step_placeWord]
    exact runCall_of_decode (by rw [formWord_withContextOf, hdecode])
  case waits => simp
  case boots =>
    intro hi
    rw [withContextOf_initialised]
    apply bootedFor_initialised
    intro hk
    rw [decode_of_kind_init hk, guarded_eq_ok_iff] at hdecode
    exact hi (hdecode.2 ▸ rfl)
  case keeps =>
    intro hs
    simp [bootedFor_of_initialised _ hs, hs]

/-- Settles O9: the three bus calls decode to their byte in the context of the state, and the byte's
range says which case of the decoder that is. -/
theorem busBytesDecodeInTheLatchedContext : Obligations.BusBytesDecodeInTheLatchedContext := by
  intro s byte
  have hbyte := byte.isLt
  refine ⟨fun h => ?_, fun h => ?_, fun h => ?_, fun h => ?_, fun h => ?_, fun h => ?_⟩
  · rw [decode_aya, ayAddressOf_of_lt _ _ h]
  · refine ⟨_, decode_aya s byte _, ?_⟩
    rw [rowIndex_ayAddressOf]
    split_ifs <;> omega
  · rw [decode_ayd, h, ← ayDataOf_eq_getElem]
    rfl
  · rw [decode_ayd, h]
    rfl
  · rw [decode_snw, snByteOf, if_pos ((getLsbD_byte_eq_true_iff byte 7).mpr (by omega))]
  · rw [decode_snw, snByteOf, if_neg (by rw [getLsbD_byte_eq_true_iff]; omega), snContext]
end

section
/-! PROOFS. The operations by class: a bus write of either family is one update of its bank behind one
guard (44_register_bus.md), and the six others stand by themselves. -/

namespace Sys2Proof.Machine

/-! The rows that share an operation. -/

section
variable (s : State) (lch : BitVec 2) (lvol : Bool)

theorem exec_snToneLatches (c : Chan) (d : BitVec 4) :
    exec (snToneLatches lch lvol d)[c] s = snLatchTone c d s := by
  fin_cases c <;> rfl

theorem exec_snVolumeLatches (c : Fin 4) (d : BitVec 4) :
    exec (snVolumeLatches lch lvol d)[c] s = snLatchVolume c d s := by
  fin_cases c <;> rfl

theorem exec_snToneData (c : Chan) (d : BitVec 7) : exec (snToneData d)[c] s = snDataTone c d s := by
  fin_cases c <;> rfl

theorem exec_snVolumeData (c : Fin 4) (d : BitVec 7) :
    exec (snVolumeData d)[c] s = snDataVolume c d s := by
  fin_cases c <;> rfl

end

theorem rowIndex_ayDataWrites (n : Fin 16) (d : Byte) : (ayDataWrites d)[n].rowIndex = 6 + n.val := by
  fin_cases n <;> rfl

/-- The bus writes of the AY family, each with what it does to the bank and to the events. -/
inductive AyWrite : Instr → (AyModel → AyBank → AyBank) → (List Diag → List Diag) → Prop where
  | address (act : Bool) (lat r : BitVec 4) :
      AyWrite (.ayAddr act lat r) (fun _ a => { a with active := true, addr := r }) id
  | badAddress {i : Instr} (byte : Byte) (hrow : 1 ≤ i.rowIndex ∧ i.rowIndex ≤ 4)
      (hbyte : 16 ≤ byte.toNat) (hexec : ∀ s, exec i s = ayBadAddressWrite byte s) :
      AyWrite i (fun _ a => { a with active := false }) (· ++ [.badAddress byte])
  | inactive (lat : BitVec 4) (byte : Byte) : AyWrite (.ayDataInactive lat byte) (fun _ a => a) id
  | data (n : Fin 16) (d : Byte) : AyWrite (ayDataWrites d)[n] (fun m a => storeAyReg m n d a) id

/-- The bus writes of the SN family, each with what it does to the bank, given the tap width. -/
inductive SnWrite : Instr → (Nat → SnBank → SnBank) → Prop where
  | latchTone (c : Chan) (lch : BitVec 2) (lvol : Bool) (d : BitVec 4) :
      SnWrite (snToneLatches lch lvol d)[c] (fun _ b =>
        setTonePeriod c (withLowNibble b.toneReg[c] d) (setLatch (BitVec.ofNat 2 c.val) false b))
  | latchVolume (c : Fin 4) (lch : BitVec 2) (lvol : Bool) (d : BitVec 4) :
      SnWrite (snVolumeLatches lch lvol d)[c] (fun _ b =>
        setVolume c d (setLatch (BitVec.ofNat 2 c.val) true b))
  | latchNoise (lch : BitVec 2) (lvol : Bool) (d : BitVec 4) :
      SnWrite (.snLatchNoise lch lvol d) (fun w b =>
        writeNoiseReg Config.snNoiseWriteReseeds w (latchNoiseBits d) (setLatch 3 false b))
  | dataTone (c : Chan) (d : BitVec 7) :
      SnWrite (snToneData d)[c] (fun _ b => setTonePeriod c (withHighBits b.toneReg[c] d) b)
  | dataVolume (c : Fin 4) (d : BitVec 7) :
      SnWrite (snVolumeData d)[c] (fun _ b => setVolume c (dataVolumeBits d) b)
  | dataNoise (d : BitVec 7) :
      SnWrite (.snDataNoise d) (fun w b =>
        writeNoiseReg Config.snNoiseWriteReseeds w (dataNoiseBits d) b)

section
variable {i : Instr} {f : AyModel → AyBank → AyBank} {g : List Diag → List Diag}

theorem AyWrite.exec_eq (h : AyWrite i f g) (s : State) :
    exec i s = whenAy s fun m =>
      returning none { s with ay := f m s.ay, diag := g s.diag } := by
  cases h with
  | address => rfl
  | badAddress byte _ _ hexec => exact hexec s
  | inactive => rfl
  | data n d => exact exec_ayDataWrites n d s

theorem AyWrite.exec_eq_next (h : AyWrite i f g) {s t : State} :
    exec i s = .next t ↔ s.initialised = true ∧ ∃ m, s.variant = .ay m ∧
      t = { s with ay := f m s.ay, diag := g s.diag, result := none } := by
  simp only [h.exec_eq, whenAy_eq_next, returning_eq_next]

theorem AyWrite.rowIndex_lt (h : AyWrite i f g) : i.rowIndex < 22 := by
  cases h with
  | address => simp [Instr.rowIndex]
  | badAddress byte hrow => omega
  | inactive => simp [Instr.rowIndex]
  | data n d => rw [rowIndex_ayDataWrites]; omega

end

section
variable {i : Instr} {f : Nat → SnBank → SnBank}

theorem SnWrite.exec_eq (h : SnWrite i f) (s : State) :
    exec i s = whenSn s (returning none { s with sn := f s.tapWidth s.sn }) := by
  cases h with
  | latchTone c lch lvol d => exact exec_snToneLatches s lch lvol c d
  | latchVolume c lch lvol d => exact exec_snVolumeLatches s lch lvol c d
  | latchNoise => rfl
  | dataTone c d => exact exec_snToneData s c d
  | dataVolume c d => exact exec_snVolumeData s c d
  | dataNoise => rfl

theorem SnWrite.exec_eq_next (h : SnWrite i f) {s t : State} :
    exec i s = .next t ↔ s.initialised = true ∧ (∃ m, s.variant = .sn m) ∧
      t = { s with sn := f s.tapWidth s.sn, result := none } := by
  simp only [h.exec_eq, whenSn_eq_next, returning_eq_next]

theorem SnWrite.rowIndex_bounds (h : SnWrite i f) : 22 ≤ i.rowIndex ∧ i.rowIndex < 38 := by
  cases h with
  | latchTone c => fin_cases c <;> simp [snToneLatches, Instr.rowIndex]
  | latchVolume c => fin_cases c <;> simp [snVolumeLatches, Instr.rowIndex]
  | latchNoise => simp [Instr.rowIndex]
  | dataTone c => fin_cases c <;> simp [snToneData, Instr.rowIndex]
  | dataVolume c => fin_cases c <;> simp [snVolumeData, Instr.rowIndex]
  | dataNoise => simp [Instr.rowIndex]

end

/-- An operation by its class. -/
inductive Class : Instr → Prop where
  | ayBus {i f g} (write : AyWrite i f g) : Class i
  | snBus {i f} (write : SnWrite i f) : Class i
  | ggStereo (m : Byte) : Class (.ggStereo m)
  | tick : Class .tick
  | getSamples : Class .getSamples
  | init (v : BitVec 4) (noise : Option NoiseConfig) : Class (.init v noise)
  | getClockDivisor : Class .getClockDivisor
  | getSampleRate (hz : Nat) : Class (.getSampleRate hz)

/-- The 44 rows in the eight classes. -/
theorem class_of (i : Instr) : Class i := by
  cases i with
  | ayAddr act lat r => exact .ayBus (.address act lat r)
  | ayAddrBadBit7 act lat low =>
    exact .ayBus (.badAddress (1#1 ++ low) (by simp [Instr.rowIndex])
      (by rw [BitVec.toNat_append]; exact Nat.le_trans (by decide) Nat.left_le_or) fun _ => rfl)
  | ayAddrBadBit6 act lat low =>
    exact .ayBus (.badAddress (1#2 ++ low) (by simp [Instr.rowIndex])
      (by rw [BitVec.toNat_append]; exact Nat.le_trans (by decide) Nat.left_le_or) fun _ => rfl)
  | ayAddrBadBit5 act lat low =>
    exact .ayBus (.badAddress (1#3 ++ low) (by simp [Instr.rowIndex])
      (by rw [BitVec.toNat_append]; exact Nat.le_trans (by decide) Nat.left_le_or) fun _ => rfl)
  | ayAddrBadBit4 act lat low =>
    exact .ayBus (.badAddress (1#4 ++ low) (by simp [Instr.rowIndex])
      (by rw [BitVec.toNat_append]; exact Nat.le_trans (by decide) Nat.left_le_or) fun _ => rfl)
  | ayDataInactive lat byte => exact .ayBus (.inactive lat byte)
  | ayDataR0 d => exact .ayBus (.data 0 d)
  | ayDataR1 d => exact .ayBus (.data 1 d)
  | ayDataR2 d => exact .ayBus (.data 2 d)
  | ayDataR3 d => exact .ayBus (.data 3 d)
  | ayDataR4 d => exact .ayBus (.data 4 d)
  | ayDataR5 d => exact .ayBus (.data 5 d)
  | ayDataR6 d => exact .ayBus (.data 6 d)
  | ayDataR7 d => exact .ayBus (.data 7 d)
  | ayDataR8 d => exact .ayBus (.data 8 d)
  | ayDataR9 d => exact .ayBus (.data 9 d)
  | ayDataR10 d => exact .ayBus (.data 10 d)
  | ayDataR11 d => exact .ayBus (.data 11 d)
  | ayDataR12 d => exact .ayBus (.data 12 d)
  | ayDataR13 d => exact .ayBus (.data 13 d)
  | ayDataR14 d => exact .ayBus (.data 14 d)
  | ayDataR15 d => exact .ayBus (.data 15 d)
  | snLatchTone0 lch lvol d => exact .snBus (.latchTone 0 lch lvol d)
  | snLatchTone1 lch lvol d => exact .snBus (.latchTone 1 lch lvol d)
  | snLatchTone2 lch lvol d => exact .snBus (.latchTone 2 lch lvol d)
  | snLatchNoise lch lvol d => exact .snBus (.latchNoise lch lvol d)
  | snLatchVol0 lch lvol d => exact .snBus (.latchVolume 0 lch lvol d)
  | snLatchVol1 lch lvol d => exact .snBus (.latchVolume 1 lch lvol d)
  | snLatchVol2 lch lvol d => exact .snBus (.latchVolume 2 lch lvol d)
  | snLatchVol3 lch lvol d => exact .snBus (.latchVolume 3 lch lvol d)
  | snDataTone0 d => exact .snBus (.dataTone 0 d)
  | snDataTone1 d => exact .snBus (.dataTone 1 d)
  | snDataTone2 d => exact .snBus (.dataTone 2 d)
  | snDataNoise d => exact .snBus (.dataNoise d)
  | snDataVol0 d => exact .snBus (.dataVolume 0 d)
  | snDataVol1 d => exact .snBus (.dataVolume 1 d)
  | snDataVol2 d => exact .snBus (.dataVolume 2 d)
  | snDataVol3 d => exact .snBus (.dataVolume 3 d)
  | ggStereo m => exact .ggStereo m
  | tick => exact .tick
  | getSamples => exact .getSamples
  | init v noise => exact .init v noise
  | getClockDivisor => exact .getClockDivisor
  | getSampleRate hz => exact .getSampleRate hz

theorem exists_ayWrite {i : Instr} (h : i.isAyBus) : ∃ f g, AyWrite i f g := by
  cases class_of i with
  | ayBus write => exact ⟨_, _, write⟩
  | snBus write => have := write.rowIndex_bounds; omega
  | _ => simp [Instr.isAyBus, Instr.rowIndex] at h

theorem exists_snWrite {i : Instr} (h : i.isSnBus) : ∃ f, SnWrite i f := by
  cases class_of i with
  | ayBus write => have := write.rowIndex_lt; omega
  | snBus write => exact ⟨_, write⟩
  | _ => simp [Instr.isSnBus, Instr.rowIndex] at h

end Sys2Proof.Machine
end

section
/-! PROOFS. What holds of every operation: its refusals (60_exceptions.md R167), its frame, and what it
does not read. -/

namespace Sys2Proof.Machine

section
variable {s : State} {i : Instr}

theorem variant_cases (s : State) : (∃ m, s.variant = .ay m) ∨ ∃ m, s.variant = .sn m := by
  cases s.variant <;> simp

theorem exec_refuses_before_init (hs : s.initialised = false) (hi : ¬ i.isInit) :
    exec i s = .refused .notInitialised := by
  cases class_of i with
  | ayBus write => rw [write.exec_eq, whenAy, whenInitialised_refuses hs]
  | snBus write => rw [write.exec_eq, whenSn, whenInitialised_refuses hs]
  | init => exact absurd rfl hi
  | ggStereo | tick | getSamples | getClockDivisor | getSampleRate =>
    exact whenInitialised_refuses hs

theorem execGgStereo_refuses (hs : s.initialised = true) (hv : s.variant ≠ .sn .sn76489gg)
    (mask : Byte) : execGgStereo mask s = .refused .notGameGear := by
  rw [execGgStereo, whenGameGear, whenInitialised_of hs]
  split
  next h => exact absurd h hv
  next => rfl
  next => rfl

/-- What an operation returns to the host (00_scope.md R17). -/
def returned (i : Instr) (s : State) : Option Output :=
  match i with
  | .getSamples => some (sampleOf s)
  | .getClockDivisor => some (.divisor (clockDivisor s))
  | .getSampleRate hz => some (.rate (mkRat hz (clockDivisor s)))
  | _ => none

theorem returned_ne_none_iff :
    returned i s ≠ none ↔ i = .getSamples ∨ i = .getClockDivisor ∨ ∃ hz, i = .getSampleRate hz := by
  cases i <;> simp [returned]

theorem returned_ayBus (h : i.isAyBus) : returned i s = none := by
  cases i <;> simp_all [returned, Instr.isAyBus, Instr.rowIndex]

theorem returned_snBus (h : i.isSnBus) : returned i s = none := by
  cases i <;> simp_all [returned, Instr.isSnBus, Instr.rowIndex]

/-- The frame of an operation other than `INIT`: it completes on an initialised chip only, keeps the
configuration and the waiting calls, and touches no bank but that of the chip's family. -/
theorem exec_frame {t : State} (h : exec i s = .next t) (hi : ¬ i.isInit) :
    s.initialised = true ∧
    ((∃ m, s.variant = .ay m ∧
        t = { s with ay := t.ay, diag := t.diag, result := returned i s }) ∨
      (∃ m, s.variant = .sn m ∧ t = { s with sn := t.sn, result := returned i s })) := by
  cases class_of i with
  | ayBus write =>
    obtain ⟨hs, m, hv, rfl⟩ := write.exec_eq_next.mp h
    exact ⟨hs, .inl ⟨m, hv, by rw [returned_ayBus write.rowIndex_lt]⟩⟩
  | snBus write =>
    obtain ⟨hs, ⟨m, hv⟩, rfl⟩ := write.exec_eq_next.mp h
    exact ⟨hs, .inr ⟨m, hv, by rw [returned_snBus write.rowIndex_bounds]⟩⟩
  | ggStereo =>
    obtain ⟨hs, hv, rfl⟩ := execGgStereo_eq_next.mp h
    exact ⟨hs, .inr ⟨_, hv, rfl⟩⟩
  | tick =>
    obtain ⟨hs, ⟨m, hv, rfl⟩ | ⟨⟨m, hv⟩, rfl⟩⟩ := execTick_eq_next.mp h
    · exact ⟨hs, .inl ⟨m, hv, by simp only [returned]⟩⟩
    · exact ⟨hs, .inr ⟨m, hv, by simp only [returned]⟩⟩
  | getSamples =>
    obtain ⟨hs, rfl⟩ := execGetSamples_eq_next.mp h
    exact ⟨hs, (variant_cases s).imp (fun ⟨m, hv⟩ => ⟨m, hv, rfl⟩) fun ⟨m, hv⟩ => ⟨m, hv, rfl⟩⟩
  | init => exact absurd rfl hi
  | getClockDivisor =>
    obtain ⟨hs, rfl⟩ := execGetClockDivisor_eq_next.mp h
    exact ⟨hs, (variant_cases s).imp (fun ⟨m, hv⟩ => ⟨m, hv, rfl⟩) fun ⟨m, hv⟩ => ⟨m, hv, rfl⟩⟩
  | getSampleRate =>
    obtain ⟨hs, rfl⟩ := execGetSampleRate_eq_next.mp h
    exact ⟨hs, (variant_cases s).imp (fun ⟨m, hv⟩ => ⟨m, hv, rfl⟩) fun ⟨m, hv⟩ => ⟨m, hv, rfl⟩⟩

theorem exec_init_eq_next {v : BitVec 4} {noise : Option NoiseConfig} {t : State} :
    exec (.init v noise) s = .next t ↔ ∃ var c, variantOfCode v = some var ∧
      noiseConfigFor var noise = some c ∧ t = initialisedAs var c s.pending :=
  execInit_eq_next

theorem exists_init_of_isInit (h : i.isInit) : ∃ v noise, i = .init v noise := by
  cases class_of i with
  | ayBus write => have := write.rowIndex_lt; omega
  | snBus write => have := write.rowIndex_bounds; omega
  | init v noise => exact ⟨v, noise, rfl⟩
  | ggStereo | tick | getSamples | getClockDivisor | getSampleRate =>
    simp [Instr.isInit, Instr.rowIndex] at h

/-! No operation reads what the last one returned, and none reads the diagnostics. -/

theorem exec_result_irrelevant (r : Option Output) : exec i { s with result := r } = exec i s := by
  cases class_of i with
  | ayBus write => rw [write.exec_eq, write.exec_eq]; rfl
  | snBus write => rw [write.exec_eq, write.exec_eq]; rfl
  | ggStereo | tick | getSamples | init | getClockDivisor | getSampleRate => rfl

end

theorem runCall_result_irrelevant (op : HostOp) (s : State) (r : Option Output) :
    runCall op { s with result := r } = runCall op s := by
  cases hd : decode (formWord s op.word) op.beside with
  | ok i =>
    rw [runCall_of_decode hd, runCall_of_decode (s := { s with result := r }) hd]
    exact exec_result_irrelevant r
  | error e => rw [runCall_of_reserved hd, runCall_of_reserved (s := { s with result := r }) hd]

section
variable {s t : State} {k l : Answer}

theorem alikeButDiag_whenInitialised (h : AlikeButDiag k l) :
    AlikeButDiag (whenInitialised s k) (whenInitialised s l) := by
  unfold whenInitialised
  split
  next => exact h
  next => rfl

theorem alikeButDiag_whenAy {k l : AyModel → Answer} (h : ∀ m, AlikeButDiag (k m) (l m)) :
    AlikeButDiag (whenAy s k) (whenAy s l) := by
  apply alikeButDiag_whenInitialised
  split
  next m _ => exact h m
  next => rfl

theorem alikeButDiag_whenSn (h : AlikeButDiag k l) : AlikeButDiag (whenSn s k) (whenSn s l) := by
  apply alikeButDiag_whenInitialised
  split
  next => exact h
  next => rfl

theorem alikeButDiag_whenGameGear (h : AlikeButDiag k l) :
    AlikeButDiag (whenGameGear s k) (whenGameGear s l) := by
  apply alikeButDiag_whenInitialised
  split
  next => exact h
  next => rfl
  next => rfl

/-- The guards of `{ s with diag := d }` are those of `s`, and so are the updates behind them. -/
theorem exec_alikeButDiag (i : Instr) (s : State) (d : List Diag) :
    AlikeButDiag (exec i s) (exec i { s with diag := d }) := by
  cases class_of i with
  | ayBus write =>
    rw [write.exec_eq, write.exec_eq]
    exact alikeButDiag_whenAy (s := s) fun _ => rfl
  | snBus write =>
    rw [write.exec_eq, write.exec_eq]
    exact alikeButDiag_whenSn (s := s) rfl
  | ggStereo => exact alikeButDiag_whenGameGear (s := s) rfl
  | tick =>
    refine alikeButDiag_whenInitialised (s := s) ?_
    have ay (a : AyBank) : AlikeButDiag (returning none (s.withAy a))
      (returning none ({ s with diag := d }.withAy a)) := rfl
    have sn (b : SnBank) : AlikeButDiag (returning none (s.withSn b))
      (returning none ({ s with diag := d }.withSn b)) := rfl
    cases s with
    | mk _ variant =>
      cases variant with
      | ay m => exact ay (ayTick m _)
      | sn m => exact sn (snTick Config.snNoiseDiv _ _ _)
  | init v noise =>
    change AlikeButDiag (execInit v noise s) (execInit v noise s)
    cases h : execInit v noise s with
    | next => rfl
    | fault r => exact nomatch r
    | refused => rfl
  | getSamples | getClockDivisor | getSampleRate => exact alikeButDiag_whenInitialised (s := s) rfl

theorem run_succ_of_next {k : Nat} (h : step s = .next t) :
    Host.Core.run core (k + 1) s = Host.Core.run core k t := by
  have : core.step s = .next t := h
  simp only [Host.Core.run, this]

theorem run_succ_of_refused {k : Nat} {r : Refusal} (h : step s = .refused r) :
    Host.Core.run core (k + 1) s = .refused r := by
  have : core.step s = .refused r := h
  simp only [Host.Core.run, this]

theorem run_succ_congr {k : Nat} (h : step s = step t) :
    Host.Core.run core (k + 1) s = Host.Core.run core (k + 1) t := by
  have : core.step s = core.step t := h
  simp only [Host.Core.run, this]

/-- The word formed does not depend on the diagnostics. -/
theorem runCall_alikeButDiag (op : HostOp) (s : State) (d : List Diag) :
    AlikeButDiag (runCall op s) (runCall op { s with diag := d }) := by
  cases hd : decode (formWord s op.word) op.beside with
  | ok i =>
    rw [runCall_of_decode hd, runCall_of_decode (s := { s with diag := d }) hd]
    exact exec_alikeButDiag i s d
  | error e =>
    rw [runCall_of_reserved hd, runCall_of_reserved (s := { s with diag := d }) hd]
    exact rfl

theorem step_alikeButDiag (h : SameButDiag s t) : AlikeButDiag (step s) (step t) := by
  rw [h]
  generalize t.diag = d
  obtain hp | ⟨op, rest, hp⟩ : s.pending = [] ∨ ∃ op rest, s.pending = op :: rest := by
    cases s.pending <;> simp
  · rw [step_of_idle hp, step_of_idle (s := { s with diag := d }) hp]
    exact rfl
  · rw [step_of_pending hp, step_of_pending (s := { s with diag := d }) hp]
    exact runCall_alikeButDiag op { s with pending := rest } d

end

/-- A restored snapshot is the saved chip under another host, and the first call overwrites what the
host was last returned. -/
theorem step_restored (saved other : State) (c : HostCall) (calls : List HostCall) :
    step ((State.restore saved.snapshot other).withCalls (c :: calls)) =
      step (saved.withCalls (c :: calls)) := by
  rw [step_of_pending (s := saved.withCalls (c :: calls)) rfl,
    step_of_pending (s := (State.restore saved.snapshot other).withCalls (c :: calls)) rfl]
  exact runCall_result_irrelevant c.toOp (saved.withCalls calls) other.result

end Sys2Proof.Machine

open Sys2Proof Sys2Proof.Machine

/-- Settles O36: every class of operation but `INIT` stands behind the guard on `initialised`. -/
theorem nothingRunsBeforeInit : Obligations.NothingRunsBeforeInit :=
  fun _ _ hs hi => exec_refuses_before_init hs hi

/-- Settles O37, by the guard in front of each bus write. -/
theorem otherChipsOperationsAreRefused : Obligations.OtherChipsOperationsAreRefused := by
  intro i s hs
  refine ⟨fun m hv hi => ?_, fun m hv hi => ?_, fun mask hv hi => ?_⟩
  · obtain ⟨f, g, write⟩ := exists_ayWrite hi
    rw [write.exec_eq, whenAy_refuses_sn hs hv]
  · obtain ⟨f, write⟩ := exists_snWrite hi
    rw [write.exec_eq, whenSn_refuses_ay hs hv]
  · subst hi
    exact execGgStereo_refuses hs hv mask

/-- Settles O38, by the frame of an operation. -/
theorem onlyInitChangesTheConfiguration : Obligations.OnlyInitChangesTheConfiguration := by
  intro i s t h hi
  obtain ⟨-, ⟨m, hv, ht⟩ | ⟨m, hv, ht⟩⟩ := exec_frame h hi
  · rw [ht]
    exact ⟨rfl, rfl, rfl, rfl, fun _ _ => rfl, fun _ hv' => by simp [hv] at hv'⟩
  · rw [ht]
    exact ⟨rfl, rfl, rfl, rfl, fun _ hv' => by simp [hv] at hv', fun _ _ => ⟨rfl, rfl⟩⟩

/-- Settles O42: `INIT` returns nothing and keeps the calls; the others by their frame. -/
theorem onlyQueriesReturnValues : Obligations.OnlyQueriesReturnValues := by
  intro i s t h
  by_cases hi : i.isInit
  · obtain ⟨v, noise, rfl⟩ := exists_init_of_isInit hi
    obtain ⟨var, c, -, -, rfl⟩ := exec_init_eq_next.mp h
    simp
  · obtain ⟨-, ⟨m, -, ht⟩ | ⟨m, -, ht⟩⟩ := exec_frame h hi <;>
      exact ht ▸ ⟨rfl, returned_ne_none_iff⟩

/-- Settles O43: the relation is kept by every step, so by every number of steps. -/
theorem diagnosticsNeverMatter : Obligations.DiagnosticsNeverMatter := by
  intro k
  induction k with
  | zero => exact fun s t h => h
  | succ k ih =>
    intro s t h
    have alike := step_alikeButDiag h
    cases hs : step s <;> cases ht : step t <;> rw [hs, ht] at alike
    case next.next =>
      rw [run_succ_of_next hs, run_succ_of_next ht]
      exact ih _ _ alike
    case refused.refused =>
      rw [run_succ_of_refused hs, run_succ_of_refused ht]
      exact alike
    all_goals exact alike.elim

/-- Settles O57: the two machines answer the first call alike, and that answer is all that goes on. -/
theorem restoredSnapshotContinuesAsSaved : Obligations.RestoredSnapshotContinuesAsSaved := by
  intro saved other calls k hcalls
  cases calls with
  | nil => exact absurd rfl hcalls
  | cons c calls => exact run_succ_congr (step_restored saved other c calls)
end

section
/-! PROOFS. What each register write stores and what it keeps (44_register_bus.md). -/

namespace Sys2Proof.Machine

theorem storeAyReg_regs (m : AyModel) (n : Fin 16) (d : Byte) (a : AyBank) :
    (storeAyReg m n d a).regs = a.regs.set n d := by
  unfold storeAyReg
  split
  next rearm => rfl
  next store => rfl

/-- A write to register 0xD latches the bits of the byte it stores. -/
theorem storeAyReg_shape (m : AyModel) (d : Byte) (a : AyBank) :
    storeAyReg m 13 d a =
      { a with
        regs := a.regs.set 13 d
        envCont := contBit d
        envAtt := attBit d
        envAlt := altBit d
        envHold := holdBit d
        envHolding := false
        envAttack := attBit d
        envLevel := rampStart m (attBit d) } := by
  have stored : (setAyReg 13 d a).regs[13] = d := by simp
  rw [storeAyReg, if_pos rfl, envRearm, stored]
  rfl

theorem one_append_eq_ofNat (k : Nat) {n : Nat} (low : BitVec n) :
    1#(k + 1) ++ low = BitVec.ofNat (k + 1 + n) (2 ^ n + low.toNat) := by
  have hlow := low.isLt
  have fits : 2 ^ n + low.toNat < 2 ^ (k + 1 + n) := by
    calc 2 ^ n + low.toNat < 2 ^ (1 + n) := by rw [Nat.pow_add]; omega
      _ ≤ 2 ^ (k + 1 + n) := Nat.pow_le_pow_right (by decide) (by omega)
  apply BitVec.eq_of_toNat_eq
  rw [BitVec.toNat_append, ← Nat.shiftLeft_add_eq_or_of_lt hlow, Nat.shiftLeft_eq,
    BitVec.toNat_ofNat, BitVec.toNat_ofNat, Nat.mod_eq_of_lt fits,
    Nat.mod_eq_of_lt (Nat.one_lt_two_pow (Nat.succ_ne_zero k)), Nat.one_mul]

theorem extractLsb'_zero_eq_ofNat {w : Nat} (x : BitVec w) (n : Nat) :
    x.extractLsb' 0 n = BitVec.ofNat n (x.toNat % 2 ^ n) := by
  apply BitVec.eq_of_toNat_eq
  rw [BitVec.extractLsb'_toNat, Nat.shiftRight_zero, BitVec.toNat_ofNat, Nat.mod_mod]

/-- Two fields that do not overlap, put together by OR, add up. -/
theorem toNat_or_shiftLeft {w k : Nat} {lo hi : BitVec w} (hlo : lo.toNat < 2 ^ k)
    (hhi : hi.toNat * 2 ^ k < 2 ^ w) : (lo ||| (hi <<< k)).toNat = lo.toNat + hi.toNat * 2 ^ k := by
  rw [BitVec.or_comm, BitVec.toNat_or, BitVec.toNat_shiftLeft, Nat.shiftLeft_eq,
    Nat.mod_eq_of_lt hhi, ← Nat.shiftLeft_eq, ← Nat.shiftLeft_add_eq_or_of_lt hlo,
    Nat.shiftLeft_eq, Nat.add_comm]

theorem toNat_withLowNibble (p : BitVec 10) (d : BitVec 4) :
    (withLowNibble p d).toNat = p.toNat / 16 * 16 + d.toNat := by
  have hp := p.isLt
  have high : p &&& (0x3F0 : BitVec 10) = (p >>> 4) <<< 4 := by
    apply BitVec.eq_of_getLsbD_eq
    intro i hi
    interval_cases i <;> simp
  have low : (d.setWidth 10).toNat = d.toNat := BitVec.toNat_setWidth_of_le (by decide)
  have shifted : (p >>> 4).toNat = p.toNat / 16 := by
    rw [BitVec.toNat_ushiftRight, Nat.shiftRight_eq_div_pow]
  rw [withLowNibble, high, BitVec.or_comm,
    toNat_or_shiftLeft (by rw [low]; exact d.isLt) (by rw [shifted]; omega), low, shifted]
  omega

theorem toNat_withHighBits (p : BitVec 10) (d : BitVec 7) :
    (withHighBits p d).toNat = p.toNat % 16 + 16 * (d.toNat % 64) := by
  have low : (p &&& (0x00F : BitVec 10)).toNat = p.toNat % 16 :=
    Nat.and_two_pow_sub_one_eq_mod p.toNat 4
  have high : ((d.extractLsb' 0 6).setWidth 10).toNat = d.toNat % 64 := by
    rw [BitVec.toNat_setWidth_of_le (by decide), BitVec.extractLsb'_toNat, Nat.shiftRight_zero]
  rw [show withHighBits p d =
      (p &&& (0x00F : BitVec 10)) ||| ((d.extractLsb' 0 6).setWidth 10 <<< 4) from rfl,
    toNat_or_shiftLeft (by omega) (by omega), low, high]
  omega

theorem withLowNibble_eq_ofNat (p : BitVec 10) (d : BitVec 4) :
    withLowNibble p d = BitVec.ofNat 10 (p.toNat / 16 * 16 + d.toNat) := by
  rw [← toNat_withLowNibble, BitVec.ofNat_toNat, BitVec.setWidth_eq]

theorem withHighBits_eq_ofNat (p : BitVec 10) (d : BitVec 7) :
    withHighBits p d = BitVec.ofNat 10 (p.toNat % 16 + 16 * (d.toNat % 64)) := by
  rw [← toNat_withHighBits, BitVec.ofNat_toNat, BitVec.setWidth_eq]

theorem withLowNibble_idem (p : BitVec 10) (d : BitVec 4) :
    withLowNibble (withLowNibble p d) d = withLowNibble p d := by
  have := d.isLt
  apply BitVec.eq_of_toNat_eq
  simp only [toNat_withLowNibble]
  omega

theorem withHighBits_idem (p : BitVec 10) (d : BitVec 7) :
    withHighBits (withHighBits p d) d = withHighBits p d := by
  apply BitVec.eq_of_toNat_eq
  simp only [toNat_withHighBits]
  omega

theorem AyWrite.idem {i : Instr} {f : AyModel → AyBank → AyBank} {g : List Diag → List Diag}
    (h : AyWrite i f g) (hrow : i.rowIndex = 0 ∨ 5 ≤ i.rowIndex) (hshape : i.rowIndex ≠ 19)
    (m : AyModel) (a : AyBank) (l : List Diag) : f m (f m a) = f m a ∧ g (g l) = g l := by
  cases h with
  | address => exact ⟨rfl, rfl⟩
  | badAddress _ hbad => omega
  | inactive => exact ⟨rfl, rfl⟩
  | data n d =>
    have hn : n ≠ 13 := by
      rintro rfl
      exact hshape (rowIndex_ayDataWrites 13 d)
    exact ⟨by simp only [storeAyReg_of_ne hn, setAyReg, Vector.set_set], rfl⟩

theorem SnWrite.idem {i : Instr} {f : Nat → SnBank → SnBank} (h : SnWrite i f) (w : Nat)
    (b : SnBank) : f w (f w b) = f w b := by
  cases h with
  | latchTone c lch lvol d => simp [setTonePeriod, setLatch, withLowNibble_idem]
  | latchVolume => simp [setVolume, setLatch]
  | latchNoise => cases hr : Config.snNoiseWriteReseeds <;> rfl
  | dataTone c d => simp [setTonePeriod, withHighBits_idem]
  | dataVolume => simp [setVolume]
  | dataNoise => cases hr : Config.snNoiseWriteReseeds <;> rfl

end Sys2Proof.Machine

open Sys2Proof Sys2Proof.Machine

/-- Settles O11: the four rows are one operation on their whole byte. -/
theorem ayBadAddressDeactivates : Obligations.AyBadAddressDeactivates := by
  intro s m act lat hs hv
  refine ⟨fun low => ⟨_, ayBadAddressWrite_eq_next.mpr ⟨hs, ⟨m, hv⟩, rfl⟩, ?_⟩,
    fun low => ⟨_, ayBadAddressWrite_eq_next.mpr ⟨hs, ⟨m, hv⟩, rfl⟩, ?_⟩,
    fun low => ⟨_, ayBadAddressWrite_eq_next.mpr ⟨hs, ⟨m, hv⟩, rfl⟩, ?_⟩,
    fun low => ⟨_, ayBadAddressWrite_eq_next.mpr ⟨hs, ⟨m, hv⟩, rfl⟩, ?_⟩⟩ <;>
    rw [one_append_eq_ofNat] <;> rfl

/-- Settles O12, by the equation of the operation. -/
theorem ayInactiveDataIsDropped : Obligations.AyInactiveDataIsDropped :=
  fun _ m lat byte hs hv => ⟨_, (AyWrite.inactive lat byte).exec_eq_next.mpr ⟨hs, m, hv, rfl⟩, rfl⟩

/-- Settles O13: a store at a register other than 0xD re-arms nothing. -/
theorem ayDataWriteStoresTheByte : Obligations.AyDataWriteStoresTheByte := by
  intro s m n d hn hs hv
  refine ⟨_, (AyWrite.data n d).exec_eq_next.mpr ⟨hs, m, hv, rfl⟩, ?_⟩
  rw [storeAyReg_of_ne hn]
  rfl

/-- Settles O14: the re-arm reads the byte that has just been stored. -/
theorem ayShapeWriteRearms : Obligations.AyShapeWriteRearms := by
  intro s m d hs hv
  refine ⟨_, (AyWrite.data 13 d).exec_eq_next.mpr ⟨hs, m, hv, rfl⟩, ?_⟩
  rw [storeAyReg_shape]
  cases m <;> rfl

/-- Settles O15, by the arithmetic of the two masked merges. -/
theorem snToneWritesMergeThePeriod : Obligations.SnToneWritesMergeThePeriod := by
  intro s m c hs hv
  refine ⟨fun lch lvol d =>
      ⟨_, (SnWrite.latchTone c lch lvol d).exec_eq_next.mpr ⟨hs, ⟨m, hv⟩, rfl⟩, ?_⟩,
    fun d => ⟨_, (SnWrite.dataTone c d).exec_eq_next.mpr ⟨hs, ⟨m, hv⟩, rfl⟩, ?_⟩⟩
  · rw [withLowNibble_eq_ofNat]
    rfl
  · rw [withHighBits_eq_ofNat]
    rfl

/-- Settles O16: a data byte gives its four low bits. -/
theorem snVolumeWritesReplaceTheVolume : Obligations.SnVolumeWritesReplaceTheVolume := by
  intro s m c hs hv
  refine ⟨fun lch lvol d =>
      ⟨_, (SnWrite.latchVolume c lch lvol d).exec_eq_next.mpr ⟨hs, ⟨m, hv⟩, rfl⟩, rfl⟩,
    fun d => ⟨_, (SnWrite.dataVolume c d).exec_eq_next.mpr ⟨hs, ⟨m, hv⟩, rfl⟩, ?_⟩⟩
  rw [dataVolumeBits, extractLsb'_zero_eq_ofNat]
  rfl

/-- Settles O17: either byte gives its three low bits. -/
theorem snNoiseWritesReplaceTheRegister : Obligations.SnNoiseWritesReplaceTheRegister := by
  intro s m hs hv
  refine ⟨fun lch lvol d =>
      ⟨_, (SnWrite.latchNoise lch lvol d).exec_eq_next.mpr ⟨hs, ⟨m, hv⟩, rfl⟩, ?_⟩,
    fun d => ⟨_, (SnWrite.dataNoise d).exec_eq_next.mpr ⟨hs, ⟨m, hv⟩, rfl⟩, ?_⟩⟩
  · rw [latchNoiseBits, extractLsb'_zero_eq_ofNat]
    rfl
  · rw [dataNoiseBits, extractLsb'_zero_eq_ofNat]
    rfl

/-- Settles O18, by the equation of the operation. -/
theorem stereoWriteReplacesTheMask : Obligations.StereoWriteReplacesTheMask :=
  fun _ _ hs hv => ⟨_, execGgStereo_eq_next.mpr ⟨hs, hv, rfl⟩, rfl⟩

/-- Settles O58: the update of each write is idempotent, but for the two kinds that are left out. -/
theorem repeatedWritesLeaveTheSameState : Obligations.RepeatedWritesLeaveTheSameState := by
  intro i s t h hrow hshape
  cases class_of i with
  | ayBus write =>
    obtain ⟨hs, m, hv, rfl⟩ := write.exec_eq_next.mp h
    obtain ⟨hf, hg⟩ := write.idem (by omega) hshape m s.ay s.diag
    exact write.exec_eq_next.mpr ⟨hs, m, hv, by simp only [hf, hg]⟩
  | snBus write =>
    obtain ⟨hs, hv, rfl⟩ := write.exec_eq_next.mp h
    exact write.exec_eq_next.mpr ⟨hs, hv, by simp only [write.idem]⟩
  | ggStereo mask =>
    obtain ⟨hs, hv, rfl⟩ := execGgStereo_eq_next.mp h
    exact execGgStereo_eq_next.mpr ⟨hs, hv, rfl⟩
  | tick | getSamples | init | getClockDivisor | getSampleRate => simp [Instr.rowIndex] at hrow
end

section
/-! PROOFS. Which operation can change which register and which unit (10_state.md sections 2 to 5,
70_reset_and_hazards.md R184). -/

namespace Sys2Proof.Machine

theorem getElem_set_fin {α : Type} {n : Nat} (v : Vector α n) (i j : Fin n) (x : α) :
    (v.set i x)[j] = if i = j then x else v[j] := by
  simp only [Fin.getElem_fin, Vector.getElem_set, Fin.ext_iff]

theorem eq_of_getElem_set_ne {α : Type} {n : Nat} {v : Vector α n} {i j : Fin n} {x : α}
    (h : (v.set i x)[j] ≠ v[j]) : i = j := by
  by_contra hij
  exact h (by rw [getElem_set_fin, if_neg hij])

/-- The one inversion of `exec` for the SN bank: an operation other than `INIT` keeps it, writes it by a
bus write or the stereo write, or ticks it. -/
theorem exec_sn_cases {i : Instr} {s t : State} (h : exec i s = .next t) (hi : ¬ i.isInit) :
    t.sn = s.sn ∨
    (∃ m f, s.variant = .sn m ∧ SnWrite i f ∧ t.sn = f s.tapWidth s.sn) ∨
    (∃ mask, s.variant = .sn .sn76489gg ∧ i = .ggStereo mask ∧
      t.sn = { s.sn with stereo := mask }) ∨
    (∃ m, s.variant = .sn m ∧ i = .tick ∧
      t.sn = snTick Config.snNoiseDiv s.tapWidth s.feedbackMask s.sn) := by
  cases class_of i with
  | ayBus write =>
    obtain ⟨-, m, -, rfl⟩ := write.exec_eq_next.mp h
    exact .inl rfl
  | snBus write =>
    obtain ⟨-, ⟨m, hv⟩, rfl⟩ := write.exec_eq_next.mp h
    exact .inr (.inl ⟨m, _, hv, write, rfl⟩)
  | ggStereo mask =>
    obtain ⟨-, hv, rfl⟩ := execGgStereo_eq_next.mp h
    exact .inr (.inr (.inl ⟨mask, hv, rfl, rfl⟩))
  | tick =>
    obtain ⟨-, ⟨m, -, rfl⟩ | ⟨⟨m, hv⟩, rfl⟩⟩ := execTick_eq_next.mp h
    · exact .inl rfl
    · exact .inr (.inr (.inr ⟨m, hv, rfl, by with_reducible rfl⟩))
  | getSamples =>
    obtain ⟨-, rfl⟩ := execGetSamples_eq_next.mp h
    exact .inl rfl
  | init => exact absurd rfl hi
  | getClockDivisor =>
    obtain ⟨-, rfl⟩ := execGetClockDivisor_eq_next.mp h
    exact .inl rfl
  | getSampleRate =>
    obtain ⟨-, rfl⟩ := execGetSampleRate_eq_next.mp h
    exact .inl rfl

section
variable {i : Instr} {f : Nat → SnBank → SnBank} {w : Nat} {b : SnBank}

theorem SnWrite.of_toneReg_ne (h : SnWrite i f) {c : Chan}
    (hne : (f w b).toneReg[c] ≠ b.toneReg[c]) :
    (∃ lch lvol d, i = (snToneLatches lch lvol d)[c]) ∨ ∃ d, i = (snToneData d)[c] := by
  cases h with
  | latchTone c' lch lvol d =>
    obtain rfl := eq_of_getElem_set_ne hne
    exact .inl ⟨lch, lvol, d, rfl⟩
  | dataTone c' d =>
    obtain rfl := eq_of_getElem_set_ne hne
    exact .inr ⟨d, rfl⟩
  | latchVolume | latchNoise | dataVolume | dataNoise => exact absurd rfl hne

theorem SnWrite.of_vol_ne (h : SnWrite i f) {c : Fin 4} (hne : (f w b).vol[c] ≠ b.vol[c]) :
    (∃ lch lvol d, i = (snVolumeLatches lch lvol d)[c]) ∨ ∃ d, i = (snVolumeData d)[c] := by
  cases h with
  | latchVolume c' lch lvol d =>
    obtain rfl := eq_of_getElem_set_ne hne
    exact .inl ⟨lch, lvol, d, rfl⟩
  | dataVolume c' d =>
    obtain rfl := eq_of_getElem_set_ne hne
    exact .inr ⟨d, rfl⟩
  | latchTone | latchNoise | dataTone | dataNoise => exact absurd rfl hne

theorem SnWrite.of_noiseReg_ne (h : SnWrite i f) (hne : (f w b).noiseReg ≠ b.noiseReg) :
    (∃ lch lvol d, i = .snLatchNoise lch lvol d) ∨ ∃ d, i = .snDataNoise d := by
  cases h with
  | latchNoise lch lvol d => exact .inl ⟨lch, lvol, d, rfl⟩
  | dataNoise d => exact .inr ⟨d, rfl⟩
  | latchTone | latchVolume | dataTone | dataVolume => exact absurd rfl hne

theorem SnWrite.stereo_eq (h : SnWrite i f) : (f w b).stereo = b.stereo := by
  cases h <;> rfl

theorem SnWrite.keeps_units (h : SnWrite i f) :
    (f w b).toneCnt = b.toneCnt ∧ (f w b).toneOut = b.toneOut ∧ (f w b).noiseCnt = b.noiseCnt ∧
      (f w b).noiseOut = b.noiseOut := by
  cases h <;> exact ⟨rfl, rfl, rfl, rfl⟩

/-- The shift register is kept, or re-seeded by a noise write where the parameter says so. -/
theorem SnWrite.lfsr_cases (h : SnWrite i f) :
    (f w b).lfsr = b.lfsr ∨
    ((f w b).lfsr = snSeed w ∧ Config.snNoiseWriteReseeds = true ∧
      ((∃ lch lvol d, i = .snLatchNoise lch lvol d) ∨ ∃ d, i = .snDataNoise d)) := by
  cases h with
  | latchNoise lch lvol d =>
    rw [writeNoiseReg_lfsr]
    split
    next reseeds => exact .inr ⟨rfl, reseeds, .inl ⟨lch, lvol, d, rfl⟩⟩
    next => exact .inl rfl
  | dataNoise d =>
    rw [writeNoiseReg_lfsr]
    split
    next reseeds => exact .inr ⟨rfl, reseeds, .inr ⟨d, rfl⟩⟩
    next => exact .inl rfl
  | latchTone | latchVolume | dataTone | dataVolume => exact .inl rfl

end

section
variable (div : Fin 3 → BitVec 16) (w : Nat) (mask : BitVec 17) (b : SnBank)

@[simp] theorem snTick_toneReg : (snTick div w mask b).toneReg = b.toneReg := by simp [snTick]
@[simp] theorem snTick_noiseReg : (snTick div w mask b).noiseReg = b.noiseReg := by simp [snTick]
@[simp] theorem snTick_vol : (snTick div w mask b).vol = b.vol := by simp [snTick]
@[simp] theorem snTick_latchCh : (snTick div w mask b).latchCh = b.latchCh := by simp [snTick]
@[simp] theorem snTick_latchVol : (snTick div w mask b).latchVol = b.latchVol := by simp [snTick]
@[simp] theorem snTick_stereo : (snTick div w mask b).stereo = b.stereo := by simp [snTick]

end

section
variable (m : AyModel) (a : AyBank)

@[simp] theorem ayTick_regs : (ayTick m a).regs = a.regs := by simp [ayTick]
@[simp] theorem ayTick_active : (ayTick m a).active = a.active := by simp [ayTick]
@[simp] theorem ayTick_addr : (ayTick m a).addr = a.addr := by simp [ayTick]
@[simp] theorem ayTick_envCont : (ayTick m a).envCont = a.envCont := by simp [ayTick]
@[simp] theorem ayTick_envAtt : (ayTick m a).envAtt = a.envAtt := by simp [ayTick]
@[simp] theorem ayTick_envAlt : (ayTick m a).envAlt = a.envAlt := by simp [ayTick]
@[simp] theorem ayTick_envHold : (ayTick m a).envHold = a.envHold := by simp [ayTick]

end

theorem storeAyReg_keeps_units (m : AyModel) (n : Fin 16) (d : Byte) (a : AyBank) :
    (storeAyReg m n d a).toneCnt = a.toneCnt ∧ (storeAyReg m n d a).toneOut = a.toneOut ∧
    (storeAyReg m n d a).noiseCnt = a.noiseCnt ∧ (storeAyReg m n d a).noiseFlip = a.noiseFlip ∧
    (storeAyReg m n d a).lfsr = a.lfsr ∧ (storeAyReg m n d a).noiseOut = a.noiseOut ∧
    (storeAyReg m n d a).envCnt = a.envCnt := by
  unfold storeAyReg
  split
  next rearm => exact ⟨rfl, rfl, rfl, rfl, rfl, rfl, rfl⟩
  next store => exact ⟨rfl, rfl, rfl, rfl, rfl, rfl, rfl⟩

theorem exec_ay_reg_changes {i : Instr} {s t : State} (h : exec i s = .next t) (hi : ¬ i.isInit)
    {n : Fin 16} (hne : t.ay.regs[n] ≠ s.ay.regs[n]) :
    ∃ d, i = (ayDataWrites d)[n] ∧ t.ay.regs[n] = d := by
  obtain hay | ⟨-, act, addr, hay⟩ | ⟨m, n', d, -, rfl, hay⟩ | ⟨m, -, -, hay⟩ := exec_ay_cases h hi
  · exact absurd (by rw [hay]) hne
  · exact absurd (by rw [hay]) hne
  · rw [hay, storeAyReg_regs] at hne ⊢
    obtain rfl := eq_of_getElem_set_ne hne
    exact ⟨d, rfl, by rw [getElem_set_fin, if_pos rfl]⟩
  · exact absurd (by rw [hay, ayTick_regs]) hne

/-- Outside `INIT` and `TICK` the AY units stand still, but for the re-arm. -/
theorem exec_keeps_ay_units {i : Instr} {s t : State} (h : exec i s = .next t) (hi : ¬ i.isInit)
    (htick : i ≠ .tick) :
    t.ay.toneCnt = s.ay.toneCnt ∧ t.ay.toneOut = s.ay.toneOut ∧ t.ay.noiseCnt = s.ay.noiseCnt ∧
    t.ay.noiseFlip = s.ay.noiseFlip ∧ t.ay.lfsr = s.ay.lfsr ∧ t.ay.noiseOut = s.ay.noiseOut ∧
    t.ay.envCnt = s.ay.envCnt ∧
    ((∀ d, i ≠ .ayDataR13 d) → t.ay.envLevel = s.ay.envLevel ∧ t.ay.envAttack = s.ay.envAttack ∧
      t.ay.envHolding = s.ay.envHolding) := by
  obtain hay | ⟨-, act, addr, hay⟩ | ⟨m, n, d, -, rfl, hay⟩ | ⟨m, -, rfl, -⟩ := exec_ay_cases h hi
  · rw [hay]
    exact ⟨rfl, rfl, rfl, rfl, rfl, rfl, rfl, fun _ => ⟨rfl, rfl, rfl⟩⟩
  · rw [hay]
    exact ⟨rfl, rfl, rfl, rfl, rfl, rfl, rfl, fun _ => ⟨rfl, rfl, rfl⟩⟩
  · rw [hay]
    obtain ⟨h₁, h₂, h₃, h₄, h₅, h₆, h₇⟩ := storeAyReg_keeps_units m n d s.ay
    refine ⟨h₁, h₂, h₃, h₄, h₅, h₆, h₇, fun hshape => ?_⟩
    have hn : n ≠ 13 := by
      rintro rfl
      exact hshape d rfl
    rw [storeAyReg_of_ne hn]
    exact ⟨rfl, rfl, rfl⟩
  · exact absurd rfl htick

/-- Outside `INIT` and `TICK` the SN units stand still, but for the re-seed. -/
theorem exec_keeps_sn_units {i : Instr} {s t : State} (h : exec i s = .next t) (hi : ¬ i.isInit)
    (htick : i ≠ .tick) :
    t.sn.toneCnt = s.sn.toneCnt ∧ t.sn.toneOut = s.sn.toneOut ∧ t.sn.noiseCnt = s.sn.noiseCnt ∧
    t.sn.noiseOut = s.sn.noiseOut ∧
    (t.sn.lfsr = s.sn.lfsr ∨ (Config.snNoiseWriteReseeds = true ∧
      ((∃ lch lvol d, i = .snLatchNoise lch lvol d) ∨ ∃ d, i = .snDataNoise d))) := by
  obtain hsn | ⟨m, f, -, write, hsn⟩ | ⟨mask, -, -, hsn⟩ | ⟨m, -, rfl, -⟩ := exec_sn_cases h hi
  · rw [hsn]
    exact ⟨rfl, rfl, rfl, rfl, .inl rfl⟩
  · rw [hsn]
    obtain ⟨h₁, h₂, h₃, h₄⟩ := write.keeps_units (w := s.tapWidth) (b := s.sn)
    exact ⟨h₁, h₂, h₃, h₄, write.lfsr_cases.imp_right And.right⟩
  · rw [hsn]
    exact ⟨rfl, rfl, rfl, rfl, .inl rfl⟩
  · exact absurd rfl htick

end Sys2Proof.Machine

open Sys2Proof Sys2Proof.Machine

/-- Settles O39: the AY registers by the inversion for their bank, the SN registers by that for theirs. -/
theorem registersChangeOnlyByTheirWrites : Obligations.RegistersChangeOnlyByTheirWrites := by
  intro i s t h hi
  refine ⟨fun n => exec_ay_reg_changes h hi, ?_⟩
  obtain hsn | ⟨m, f, -, write, hsn⟩ | ⟨mask, -, rfl, hsn⟩ | ⟨m, -, -, hsn⟩ := exec_sn_cases h hi
  all_goals rw [hsn]
  · exact ⟨fun _ hne => absurd rfl hne, fun _ hne => absurd rfl hne, fun hne => absurd rfl hne,
      fun hne => absurd rfl hne⟩
  · exact ⟨fun _ => write.of_toneReg_ne, fun _ => write.of_vol_ne, write.of_noiseReg_ne,
      fun hne => absurd write.stereo_eq hne⟩
  · exact ⟨fun _ hne => absurd rfl hne, fun _ hne => absurd rfl hne, fun hne => absurd rfl hne,
      fun _ => ⟨mask, rfl, rfl⟩⟩
  · simp only [snTick_toneReg, snTick_vol, snTick_noiseReg, snTick_stereo]
    exact ⟨fun _ hne => absurd rfl hne, fun _ hne => absurd rfl hne, fun hne => absurd rfl hne,
      fun hne => absurd rfl hne⟩

/-- Settles O40, by the frame of each bank. -/
theorem unitsMoveOnlyOnTick : Obligations.UnitsMoveOnlyOnTick := by
  intro i s t h hi htick
  obtain ⟨h₁, h₂, h₃, h₄, h₅, h₆, h₇, hshape⟩ := exec_keeps_ay_units h hi htick
  exact ⟨h₁, h₂, h₃, h₄, h₅, h₆, h₇, hshape, exec_keeps_sn_units h hi htick⟩

/-- Settles O25: a tick of either family, field by field. -/
theorem tickWritesOnlyUnitState : Obligations.TickWritesOnlyUnitState := by
  intro s t h
  obtain ⟨-, ⟨m, hv, rfl⟩ | ⟨⟨m, hv⟩, rfl⟩⟩ := execTick_eq_next.mp h <;> simp [hv]
end

section
/-! PROOFS. The unit steps of a tick: what each reads and writes, that they commute
(46_host_ops.md, D32), and what a whole tick does to each unit. -/

namespace Sys2Proof.Machine

/-! The AY tone dividers (41_tone.md R85). -/

/-- The counter of channel `c` after a tick. -/
def ayToneCntNext (a : AyBank) (c : Chan) : BitVec 12 :=
  if (tonePeriod a c).toNat ≤ a.toneCnt[c].toNat + 1 then 0
  else BitVec.ofNat 12 (a.toneCnt[c].toNat + 1)

/-- The output of channel `c` after a tick. -/
def ayToneOutNext (a : AyBank) (c : Chan) : Bool :=
  if (tonePeriod a c).toNat ≤ a.toneCnt[c].toNat + 1 then !a.toneOut[c] else a.toneOut[c]

theorem ayToneTick_eq (c : Chan) (a : AyBank) :
    ayToneTick c a =
      { a with
        toneCnt := a.toneCnt.set c (ayToneCntNext a c)
        toneOut := a.toneOut.set c (ayToneOutNext a c) } := by
  simp only [ayToneTick, ayToneCntNext, ayToneOutNext]
  split
  next => rfl
  next => simp

section
variable {a : AyBank} {c : Chan}

theorem tonePeriod_congr {a' : AyBank} (hregs : a'.regs = a.regs) :
    tonePeriod a' c = tonePeriod a c := by
  simp only [tonePeriod, hregs]

theorem ayToneCntNext_congr {a' : AyBank} (hregs : a'.regs = a.regs)
    (hcnt : a'.toneCnt[c] = a.toneCnt[c]) : ayToneCntNext a' c = ayToneCntNext a c := by
  rw [ayToneCntNext, ayToneCntNext, tonePeriod_congr hregs, hcnt]

theorem ayToneOutNext_congr {a' : AyBank} (hregs : a'.regs = a.regs)
    (hcnt : a'.toneCnt[c] = a.toneCnt[c]) (hout : a'.toneOut[c] = a.toneOut[c]) :
    ayToneOutNext a' c = ayToneOutNext a c := by
  rw [ayToneOutNext, ayToneOutNext, tonePeriod_congr hregs, hcnt, hout]

theorem ayToneTick_toneCnt (e : Chan) :
    (ayToneTick e a).toneCnt[c] = if e = c then ayToneCntNext a e else a.toneCnt[c] := by
  rw [ayToneTick_eq]
  exact getElem_set_fin _ _ _ _

theorem ayToneTick_toneOut (e : Chan) :
    (ayToneTick e a).toneOut[c] = if e = c then ayToneOutNext a e else a.toneOut[c] := by
  rw [ayToneTick_eq]
  exact getElem_set_fin _ _ _ _

theorem ayToneCntNext_ayToneTick {e : Chan} (h : e ≠ c) :
    ayToneCntNext (ayToneTick e a) c = ayToneCntNext a c :=
  ayToneCntNext_congr (ayToneTick_regs e a) (by rw [ayToneTick_toneCnt, if_neg h])

theorem ayToneOutNext_ayToneTick {e : Chan} (h : e ≠ c) :
    ayToneOutNext (ayToneTick e a) c = ayToneOutNext a c :=
  ayToneOutNext_congr (ayToneTick_regs e a) (by rw [ayToneTick_toneCnt, if_neg h])
    (by rw [ayToneTick_toneOut, if_neg h])

theorem ayToneTick_comm {e : Chan} (h : c ≠ e) :
    ayToneTick c (ayToneTick e a) = ayToneTick e (ayToneTick c a) := by
  have hval : c.val ≠ e.val := Fin.val_ne_of_ne h
  rw [ayToneTick_eq c (ayToneTick e a), ayToneTick_eq e (ayToneTick c a),
    ayToneCntNext_ayToneTick h.symm, ayToneOutNext_ayToneTick h.symm, ayToneCntNext_ayToneTick h,
    ayToneOutNext_ayToneTick h, ayToneTick_eq c, ayToneTick_eq e]
  simp only [Vector.set_comm _ _ hval]

/-- A step that reads and writes no tone unit, and keeps the registers, commutes with a tone divider. -/
theorem ayToneTick_comm_of {g : AyBank → AyBank} (hregs : ∀ a, (g a).regs = a.regs)
    (hcnt : ∀ a, (g a).toneCnt = a.toneCnt) (hout : ∀ a, (g a).toneOut = a.toneOut)
    (hg : ∀ a cnt out, g { a with toneCnt := cnt, toneOut := out } =
      { g a with toneCnt := cnt, toneOut := out }) :
    ayToneTick c (g a) = g (ayToneTick c a) := by
  rw [ayToneTick_eq c (g a), ayToneCntNext_congr (hregs a) (by rw [hcnt]),
    ayToneOutNext_congr (hregs a) (by rw [hcnt]) (by rw [hout]), hcnt, hout, ayToneTick_eq c a]
  exact (hg a _ _).symm

end

/-! The AY noise unit (42_noise.md R94): it counts, flips up, or flips down and shifts. -/

section
variable {a : AyBank}

theorem ayNoiseTick_of_count (h : a.noiseCnt.toNat + 1 < (noisePeriod a).toNat) :
    ayNoiseTick a = { a with noiseCnt := BitVec.ofNat 5 (a.noiseCnt.toNat + 1) } := by
  rw [ayNoiseTick, if_neg (Nat.not_le_of_lt h)]

theorem ayNoiseTick_of_flip_up (h : (noisePeriod a).toNat ≤ a.noiseCnt.toNat + 1)
    (hflip : a.noiseFlip = false) :
    ayNoiseTick a = { a with noiseCnt := 0, noiseFlip := true } := by
  simp only [ayNoiseTick, if_pos h, hflip, Bool.not_false, Bool.true_eq_false, if_false]

theorem ayNoiseTick_of_flip_down (h : (noisePeriod a).toNat ≤ a.noiseCnt.toNat + 1)
    (hflip : a.noiseFlip = true) :
    ayNoiseTick a = ayLfsrShift { a with noiseCnt := 0, noiseFlip := false } := by
  simp only [ayNoiseTick, if_pos h, hflip, Bool.not_true, if_true]

/-- The three cases of the noise unit's tick. -/
theorem ayNoiseTick_cases (a : AyBank) :
    a.noiseCnt.toNat + 1 < (noisePeriod a).toNat ∨
      ((noisePeriod a).toNat ≤ a.noiseCnt.toNat + 1 ∧ a.noiseFlip = false) ∨
      ((noisePeriod a).toNat ≤ a.noiseCnt.toNat + 1 ∧ a.noiseFlip = true) := by
  rcases Nat.lt_or_ge (a.noiseCnt.toNat + 1) (noisePeriod a).toNat with count | boundary
  · exact .inl count
  · cases hflip : a.noiseFlip
    · exact .inr (.inl ⟨boundary, rfl⟩)
    · exact .inr (.inr ⟨boundary, rfl⟩)

theorem noisePeriod_congr {a' : AyBank} (hregs : a'.regs = a.regs) :
    noisePeriod a' = noisePeriod a := by
  simp only [noisePeriod, hregs]

/-- A step that reads and writes no noise unit, and keeps the registers, commutes with the noise
tick. -/
theorem ayNoiseTick_comm_of {g : AyBank → AyBank} (hregs : ∀ a, (g a).regs = a.regs)
    (hcnt : ∀ a, (g a).noiseCnt = a.noiseCnt) (hflip : ∀ a, (g a).noiseFlip = a.noiseFlip)
    (hlfsr : ∀ a, (g a).lfsr = a.lfsr) (hout : ∀ a, (g a).noiseOut = a.noiseOut)
    (hg : ∀ a cnt flip lfsr out,
      g { a with noiseCnt := cnt, noiseFlip := flip, lfsr := lfsr, noiseOut := out } =
        { g a with noiseCnt := cnt, noiseFlip := flip, lfsr := lfsr, noiseOut := out }) :
    ayNoiseTick (g a) = g (ayNoiseTick a) := by
  have period := noisePeriod_congr (hregs a)
  obtain count | ⟨boundary, flip⟩ | ⟨boundary, flip⟩ := ayNoiseTick_cases a
  · rw [ayNoiseTick_of_count (a := g a) (by rw [period, hcnt]; exact count),
      ayNoiseTick_of_count count, hcnt]
    refine Eq.trans ?_ (hg a _ a.noiseFlip a.lfsr a.noiseOut).symm
    simp only [hflip, hlfsr, hout]
  · rw [ayNoiseTick_of_flip_up (a := g a) (by rw [period, hcnt]; exact boundary) (by rw [hflip, flip]),
      ayNoiseTick_of_flip_up boundary flip]
    refine Eq.trans ?_ (hg a _ _ a.lfsr a.noiseOut).symm
    simp only [hlfsr, hout]
  · rw [ayNoiseTick_of_flip_down (a := g a) (by rw [period, hcnt]; exact boundary)
      (by rw [hflip, flip]), ayNoiseTick_of_flip_down boundary flip]
    refine Eq.trans ?_ (hg a _ _ (ayShifted a.lfsr) (ayNoiseOutput a.lfsr)).symm
    simp only [ayLfsrShift, hlfsr]

end

/-! The envelope unit (43_envelope.md R105 to R107). -/

section
variable (m : AyModel) (toneCnt : Vector (BitVec 12) 3) (toneOut : Vector Bool 3) (cnt : BitVec 5)
  (flip : Bool) (lfsr : BitVec 17) (out : Bool) (a : AyBank)

/-- The bank with other units of tones and noise. -/
def setSoundUnits : AyBank :=
  { a with
    toneCnt := toneCnt, toneOut := toneOut, noiseCnt := cnt, noiseFlip := flip, lfsr := lfsr,
    noiseOut := out }

theorem envTerminal_setSoundUnits :
    envTerminal m (setSoundUnits toneCnt toneOut cnt flip lfsr out a) =
      setSoundUnits toneCnt toneOut cnt flip lfsr out (envTerminal m a) := by
  simp only [envTerminal, apply_ite (setSoundUnits toneCnt toneOut cnt flip lfsr out)]
  rfl

theorem envLevelStep_setSoundUnits :
    envLevelStep m (setSoundUnits toneCnt toneOut cnt flip lfsr out a) =
      setSoundUnits toneCnt toneOut cnt flip lfsr out (envLevelStep m a) := by
  simp only [envLevelStep, envTerminal_setSoundUnits,
    apply_ite (setSoundUnits toneCnt toneOut cnt flip lfsr out)]
  rfl

/-- The envelope's tick does not look at the units of tones and noise. -/
theorem envTick_setSoundUnits :
    envTick m (setSoundUnits toneCnt toneOut cnt flip lfsr out a) =
      setSoundUnits toneCnt toneOut cnt flip lfsr out (envTick m a) := by
  simp only [envTick, ← envLevelStep_setSoundUnits,
    apply_ite (setSoundUnits toneCnt toneOut cnt flip lfsr out)]
  rfl
end

section
variable {m : AyModel} {a : AyBank} {c : Chan}

theorem ayNoiseTick_ayToneTick : ayNoiseTick (ayToneTick c a) = ayToneTick c (ayNoiseTick a) :=
  ayNoiseTick_comm_of (ayToneTick_regs c) (ayToneTick_noiseCnt c) (ayToneTick_noiseFlip c)
    (ayToneTick_lfsr c) (ayToneTick_noiseOut c) fun a _ _ _ _ => by
      rw [ayToneTick_eq, ayToneTick_eq]
      rfl

theorem ayToneTick_envTick : ayToneTick c (envTick m a) = envTick m (ayToneTick c a) :=
  ayToneTick_comm_of (envTick_regs m) (envTick_toneCnt m) (envTick_toneOut m) fun a cnt out => by
    have h := envTick_setSoundUnits m cnt out a.noiseCnt a.noiseFlip a.lfsr a.noiseOut a
    simpa only [setSoundUnits, envTick_noiseCnt, envTick_noiseFlip, envTick_lfsr,
      envTick_noiseOut] using h

theorem ayNoiseTick_envTick : ayNoiseTick (envTick m a) = envTick m (ayNoiseTick a) :=
  ayNoiseTick_comm_of (envTick_regs m) (envTick_noiseCnt m) (envTick_noiseFlip m) (envTick_lfsr m)
    (envTick_noiseOut m) fun a cnt flip lfsr out => by
      have h := envTick_setSoundUnits m a.toneCnt a.toneOut cnt flip lfsr out a
      simpa only [setSoundUnits, envTick_toneCnt, envTick_toneOut] using h

end

/-! The SN tone dividers (41_tone.md R88, R89). -/

/-- The counter of channel `c` after a tick. -/
def snToneCntNext (b : SnBank) (c : Chan) : BitVec 10 :=
  if b.toneReg[c] = 0 then b.toneCnt[c]
  else if b.toneCnt[c].toNat ≤ 1 then b.toneReg[c] else b.toneCnt[c] - 1

/-- The output of channel `c` after a tick. -/
def snToneOutNext (b : SnBank) (c : Chan) : Bool :=
  if b.toneReg[c] = 0 then true
  else if b.toneCnt[c].toNat ≤ 1 then !b.toneOut[c] else b.toneOut[c]

theorem snToneTick_eq (c : Chan) (b : SnBank) :
    snToneTick c b =
      { b with
        toneCnt := b.toneCnt.set c (snToneCntNext b c)
        toneOut := b.toneOut.set c (snToneOutNext b c) } := by
  simp only [snToneTick, snToneCntNext, snToneOutNext]
  split
  next pinned => simp
  next =>
    split
    next reload => rfl
    next count => simp

section
variable {b : SnBank} {c : Chan}

theorem snToneCntNext_congr {b' : SnBank} (hreg : b'.toneReg[c] = b.toneReg[c])
    (hcnt : b'.toneCnt[c] = b.toneCnt[c]) : snToneCntNext b' c = snToneCntNext b c := by
  simp only [snToneCntNext, hreg, hcnt]

theorem snToneOutNext_congr {b' : SnBank} (hreg : b'.toneReg[c] = b.toneReg[c])
    (hcnt : b'.toneCnt[c] = b.toneCnt[c]) (hout : b'.toneOut[c] = b.toneOut[c]) :
    snToneOutNext b' c = snToneOutNext b c := by
  simp only [snToneOutNext, hreg, hcnt, hout]

theorem snToneTick_toneCnt (e : Chan) :
    (snToneTick e b).toneCnt[c] = if e = c then snToneCntNext b e else b.toneCnt[c] := by
  rw [snToneTick_eq]
  exact getElem_set_fin _ _ _ _

theorem snToneTick_toneOut (e : Chan) :
    (snToneTick e b).toneOut[c] = if e = c then snToneOutNext b e else b.toneOut[c] := by
  rw [snToneTick_eq]
  exact getElem_set_fin _ _ _ _

theorem snToneCntNext_snToneTick {e : Chan} (h : e ≠ c) :
    snToneCntNext (snToneTick e b) c = snToneCntNext b c :=
  snToneCntNext_congr (by rw [snToneTick_toneReg]) (by rw [snToneTick_toneCnt, if_neg h])

theorem snToneOutNext_snToneTick {e : Chan} (h : e ≠ c) :
    snToneOutNext (snToneTick e b) c = snToneOutNext b c :=
  snToneOutNext_congr (by rw [snToneTick_toneReg]) (by rw [snToneTick_toneCnt, if_neg h])
    (by rw [snToneTick_toneOut, if_neg h])

theorem snToneTick_comm {e : Chan} (h : c ≠ e) :
    snToneTick c (snToneTick e b) = snToneTick e (snToneTick c b) := by
  have hval : c.val ≠ e.val := Fin.val_ne_of_ne h
  rw [snToneTick_eq c (snToneTick e b), snToneTick_eq e (snToneTick c b),
    snToneCntNext_snToneTick h.symm, snToneOutNext_snToneTick h.symm, snToneCntNext_snToneTick h,
    snToneOutNext_snToneTick h, snToneTick_eq c, snToneTick_eq e]
  simp only [Vector.set_comm _ _ hval]

end

/-! The SN noise unit (42_noise.md R98): it counts, or reloads and shifts. -/

section
variable {div : Fin 3 → BitVec 16} {w : Nat} {mask : BitVec 17} {b : SnBank} {c : Chan}

theorem snNoiseTick_of_count (h : 1 < b.noiseCnt.toNat) :
    snNoiseTick div w mask b = { b with noiseCnt := b.noiseCnt - 1 } := by
  rw [snNoiseTick, if_neg (Nat.not_le_of_lt h)]

theorem snNoiseTick_of_reload (h : b.noiseCnt.toNat ≤ 1) :
    snNoiseTick div w mask b = snLfsrShift w mask { b with noiseCnt := snNoiseReload div b } := by
  rw [snNoiseTick, if_pos h]

/-- The noise tick does not look at the counters and outputs of the tones. -/
theorem snNoiseTick_set_tones (cnt : Vector (BitVec 10) 3) (out : Vector Bool 3) :
    snNoiseTick div w mask { b with toneCnt := cnt, toneOut := out } =
      { snNoiseTick div w mask b with toneCnt := cnt, toneOut := out } := by
  rcases Nat.lt_or_ge 1 b.noiseCnt.toNat with count | reload
  · rw [snNoiseTick_of_count count,
      snNoiseTick_of_count (b := { b with toneCnt := cnt, toneOut := out }) count]
  · rw [snNoiseTick_of_reload reload,
      snNoiseTick_of_reload (b := { b with toneCnt := cnt, toneOut := out }) reload]
    rfl

theorem snToneTick_snNoiseTick :
    snToneTick c (snNoiseTick div w mask b) = snNoiseTick div w mask (snToneTick c b) := by
  rw [snToneTick_eq c b, snToneTick_eq c (snNoiseTick div w mask b),
    snToneCntNext_congr (b := b) (by rw [snNoiseTick_toneReg]) (by rw [snNoiseTick_toneCnt]),
    snToneOutNext_congr (b := b) (by rw [snNoiseTick_toneReg]) (by rw [snNoiseTick_toneCnt])
      (by rw [snNoiseTick_toneOut]), snNoiseTick_toneCnt, snNoiseTick_toneOut]
  exact (snNoiseTick_set_tones _ _).symm

end

end Sys2Proof.Machine

open Sys2Proof Sys2Proof.Machine

/-- Settles O44: no unit step reads what another writes. -/
theorem unitStepsCommute : Obligations.UnitStepsCommute :=
  ⟨fun _ _ _ _ => ⟨ayToneTick_comm, ayNoiseTick_ayToneTick.symm, ayToneTick_envTick,
    ayNoiseTick_envTick⟩, fun _ _ _ _ _ _ => ⟨snToneTick_comm, snToneTick_snNoiseTick⟩⟩
end

section
/-! PROOFS. What `TICK` does to each unit of either family (46_host_ops.md R157), in the numbers of
41_tone.md, 42_noise.md and 43_envelope.md. -/

namespace Sys2Proof.Machine

theorem exec_tick_ay {s : State} {m : AyModel} (hs : s.initialised = true) (hv : s.variant = .ay m) :
    exec .tick s = .next { s with ay := ayTick m s.ay, result := none } :=
  execTick_eq_next.mpr ⟨hs, .inl ⟨m, hv, by with_reducible rfl⟩⟩

theorem exec_tick_sn {s : State} {m : SnModel} (hs : s.initialised = true) (hv : s.variant = .sn m) :
    exec .tick s = .next
      { s with sn := snTick Config.snNoiseDiv s.tapWidth s.feedbackMask s.sn, result := none } :=
  execTick_eq_next.mpr ⟨hs, .inr ⟨⟨m, hv⟩, by with_reducible rfl⟩⟩

/-! The periods as numbers. -/

section
variable (a : AyBank) (c : Chan)

theorem toNat_tonePeriod :
    (tonePeriod a c).toNat =
      a.regs[fineIndex c].toNat + 256 * (a.regs[coarseIndex c].toNat % 16) := by
  have fine : (a.regs[fineIndex c].setWidth 12).toNat = a.regs[fineIndex c].toNat :=
    BitVec.toNat_setWidth_of_le (by decide)
  have coarse : ((a.regs[coarseIndex c].extractLsb' 0 4).setWidth 12).toNat =
      a.regs[coarseIndex c].toNat % 16 := by
    rw [BitVec.toNat_setWidth_of_le (by decide)]
    simp
  rw [tonePeriod, toNat_or_shiftLeft, fine, coarse]
  · omega
  · exact fine ▸ a.regs[fineIndex c].isLt
  · omega

theorem toNat_noisePeriod : (noisePeriod a).toNat = a.regs[6].toNat % 32 := by
  simp [noisePeriod]

theorem toNat_envPeriod : (envPeriod a).toNat = a.regs[11].toNat + 256 * a.regs[12].toNat := by
  have fine : (a.regs[11].setWidth 16).toNat = a.regs[11].toNat :=
    BitVec.toNat_setWidth_of_le (by decide)
  have coarse : (a.regs[12].setWidth 16).toNat = a.regs[12].toNat :=
    BitVec.toNat_setWidth_of_le (by decide)
  rw [envPeriod, toNat_or_shiftLeft, fine, coarse]
  · omega
  · exact fine ▸ a.regs[11].isLt
  · omega

end

/-! The units of an AY tick, each as its own step leaves it. -/

section
variable (m : AyModel) (a : AyBank) (c : Chan)

/-- Each channel is moved by its own divider alone. -/
theorem ayTick_tone :
    (ayTick m a).toneCnt[c] = ayToneCntNext a c ∧ (ayTick m a).toneOut[c] = ayToneOutNext a c := by
  have h01 : (0 : Chan) ≠ 1 := by decide
  have h02 : (0 : Chan) ≠ 2 := by decide
  have h12 : (1 : Chan) ≠ 2 := by decide
  simp only [ayTick, envTick_toneCnt, envTick_toneOut, ayNoiseTick_toneCnt, ayNoiseTick_toneOut,
    ayToneTick_toneCnt, ayToneTick_toneOut, ayToneCntNext_ayToneTick, ayToneOutNext_ayToneTick,
    h01, h02, h12, ne_eq, not_false_eq_true]
  fin_cases c <;> exact ⟨rfl, rfl⟩

/-- The noise unit is moved by its own step alone. -/
theorem ayTick_noise :
    (ayTick m a).noiseCnt = (ayNoiseTick a).noiseCnt ∧
    (ayTick m a).noiseFlip = (ayNoiseTick a).noiseFlip ∧
    (ayTick m a).lfsr = (ayNoiseTick a).lfsr ∧
    (ayTick m a).noiseOut = (ayNoiseTick a).noiseOut := by
  simp [ayTick, ayNoiseTick_ayToneTick]

/-- The envelope is moved by its own step alone. -/
theorem ayTick_env :
    (ayTick m a).envCnt = (envTick m a).envCnt ∧
    (ayTick m a).envLevel = (envTick m a).envLevel ∧
    (ayTick m a).envAttack = (envTick m a).envAttack ∧
    (ayTick m a).envHolding = (envTick m a).envHolding := by
  simp [ayTick, ← ayToneTick_envTick, ← ayNoiseTick_envTick]

end

/-! The AY tone dividers, in numbers. -/

section
variable {a : AyBank} {c : Chan}

theorem ayToneNext_of_boundary (h : (tonePeriod a c).toNat ≤ a.toneCnt[c].toNat + 1) :
    ayToneCntNext a c = 0 ∧ ayToneOutNext a c = !a.toneOut[c] :=
  ⟨if_pos h, if_pos h⟩

theorem ayToneNext_of_count (h : a.toneCnt[c].toNat + 1 < (tonePeriod a c).toNat) :
    (ayToneCntNext a c).toNat = a.toneCnt[c].toNat + 1 ∧ ayToneOutNext a c = a.toneOut[c] := by
  have fits := (tonePeriod a c).isLt
  rw [ayToneCntNext, if_neg (Nat.not_le_of_lt h), BitVec.toNat_ofNat, Nat.mod_eq_of_lt (h.trans fits)]
  exact ⟨rfl, if_neg (Nat.not_le_of_lt h)⟩

end

theorem ayNoiseTick_noiseCnt_of_count {a : AyBank} (h : a.noiseCnt.toNat + 1 < (noisePeriod a).toNat) :
    (ayNoiseTick a).noiseCnt.toNat = a.noiseCnt.toNat + 1 := by
  rw [ayNoiseTick_of_count h]
  exact (BitVec.toNat_ofNat _ _).trans (Nat.mod_eq_of_lt (h.trans (noisePeriod a).isLt))

/-! The shift register of the AY noise, as a number. -/

theorem toNat_xor_bits {p q : Nat} (hp : p < 2) (hq : q < 2) :
    (decide (p = 1) ^^ decide (q = 1)).toNat = (p + q) % 2 := by
  interval_cases p <;> interval_cases q <;> rfl

theorem toNat_ayShifted (x : BitVec 17) :
    (ayShifted x).toNat = x.toNat / 2 + 2 ^ 16 * ((x.toNat % 2 + x.toNat / 8 % 2) % 2) := by
  have feedback : ((BitVec.ofBool (ayFeedback x)).setWidth 17).toNat =
      (x.toNat % 2 + x.toNat / 8 % 2) % 2 := by
    have bit0 : x.getLsbD 0 = decide (x.toNat % 2 = 1) := Nat.testBit_zero _
    have bit3 : x.getLsbD 3 = decide (x.toNat / 8 % 2 = 1) := Nat.testBit_eq_decide_div_mod_eq
    rw [ayFeedback, bit0, bit3, BitVec.toNat_setWidth_of_le (by decide), BitVec.toNat_ofBool,
      toNat_xor_bits (Nat.mod_lt _ two_pos) (Nat.mod_lt _ two_pos)]
  have shifted : (x >>> 1).toNat = x.toNat / 2 := by simp [Nat.shiftRight_eq_div_pow]
  have fits := x.isLt
  rw [ayShifted, toNat_or_shiftLeft, shifted, feedback, Nat.mul_comm]
  · omega
  · omega

/-! The envelope's terminal rule (43_envelope.md R107), one equation for each case. -/

section
variable {m : AyModel} {a : AyBank}

theorem envTerminal_of_not_cont (h : a.envCont = false) :
    envTerminal m a = { a with envLevel := 0, envHolding := true } := by
  rw [envTerminal, if_pos h]

theorem envTerminal_of_hold (hc : a.envCont = true) (hh : a.envHold = true) :
    envTerminal m a =
      { a with
        envLevel := if a.envAlt then a.envLevel ^^^ envMax m else a.envLevel
        envHolding := true } := by
  rw [envTerminal, if_neg (by simp [hc]), if_pos hh]

theorem envTerminal_of_alternate (hc : a.envCont = true) (hh : a.envHold = false)
    (ha : a.envAlt = true) : envTerminal m a = { a with envAttack := !a.envAttack } := by
  rw [envTerminal, if_neg (by simp [hc]), if_neg (by simp [hh]), if_pos ha]

theorem envTerminal_of_restart (hc : a.envCont = true) (hh : a.envHold = false)
    (ha : a.envAlt = false) : envTerminal m a = { a with envLevel := rampStart m a.envAtt } := by
  rw [envTerminal, if_neg (by simp [hc]), if_neg (by simp [hh]), if_neg (by simp [ha])]

/-- The level stands at the extreme of the current direction. -/
abbrev AtExtreme (m : AyModel) (a : AyBank) : Prop :=
  (a.envAttack = true ∧ a.envLevel = envMax m) ∨ (a.envAttack = false ∧ a.envLevel = 0)

theorem envLevelStep_of_extreme (h : AtExtreme m a) : envLevelStep m a = envTerminal m a := by
  obtain ⟨up, top⟩ | ⟨down, bottom⟩ := h
  · exact envLevelStep_of_top up top
  · exact envLevelStep_of_bottom down bottom

theorem envLevelStep_of_not_extreme (h : ¬ AtExtreme m a) :
    envLevelStep m a =
      { a with envLevel := if a.envAttack then a.envLevel + 1 else a.envLevel - 1 } := by
  cases dir : a.envAttack
  case true =>
    rw [envLevelStep_of_rising dir fun top => h (.inl ⟨dir, top⟩)]
    simp [dir]
  case false =>
    rw [envLevelStep_of_falling dir fun bottom => h (.inr ⟨dir, bottom⟩)]
    simp [dir]

theorem envTick_of_count (h : a.envCnt.toNat + envStep m < (envPeriod a).toNat) :
    envTick m a = { a with envCnt := BitVec.ofNat 16 (a.envCnt.toNat + envStep m) } := by
  simp only [envTick, if_neg (Nat.not_le_of_lt h)]

theorem envTick_of_boundary_holding (h : (envPeriod a).toNat ≤ a.envCnt.toNat + envStep m)
    (hh : a.envHolding = true) : envTick m a = { a with envCnt := 0 } := by
  simp only [envTick, if_pos h, hh, Bool.true_eq_false, if_false]

theorem envTick_of_boundary (h : (envPeriod a).toNat ≤ a.envCnt.toNat + envStep m)
    (hh : a.envHolding = false) : envTick m a = envLevelStep m { a with envCnt := 0 } := by
  rw [envTick_of_not_holding hh, if_pos h]

theorem envTick_envCnt_of_boundary (h : (envPeriod a).toNat ≤ a.envCnt.toNat + envStep m) :
    (envTick m a).envCnt = 0 := by
  cases hh : a.envHolding
  · rw [envTick_of_boundary h hh, envLevelStep_envCnt]
  · rw [envTick_of_boundary_holding h hh]

theorem envTick_envCnt_of_count (h : a.envCnt.toNat + envStep m < (envPeriod a).toNat) :
    (envTick m a).envCnt.toNat = a.envCnt.toNat + envStep m := by
  rw [envTick_of_count h]
  exact (BitVec.toNat_ofNat _ _).trans (Nat.mod_eq_of_lt (h.trans (envPeriod a).isLt))

theorem envStep_eq (m : AyModel) : envStep m = if m = .ym2149 then 2 else 1 := by
  cases m <;> rfl

theorem envMax_eq (m : AyModel) : envMax m = if m = .ym2149 then 31 else 15 := by
  cases m <;> rfl

end

/-! A counter stands at 0 after a boundary, and below its period between two (10_state.md R43 (a)). -/

section
variable (m : AyModel) (a : AyBank) (c : Chan)

theorem envPeriod_congr {a a' : AyBank} (hregs : a'.regs = a.regs) : envPeriod a' = envPeriod a := by
  simp only [envPeriod, hregs]

theorem ayToneCntNext_lt : (ayToneCntNext a c).toNat < max 1 (tonePeriod a c).toNat := by
  rcases Nat.lt_or_ge (a.toneCnt[c].toNat + 1) (tonePeriod a c).toNat with count | boundary
  · rw [(ayToneNext_of_count count).1]
    exact lt_max_of_lt_right count
  · rw [(ayToneNext_of_boundary boundary).1]
    exact lt_max_of_lt_left Nat.one_pos

theorem ayNoiseTick_noiseCnt_lt : (ayNoiseTick a).noiseCnt.toNat < max 1 (noisePeriod a).toNat := by
  obtain count | ⟨boundary, flip⟩ | ⟨boundary, flip⟩ := ayNoiseTick_cases a
  · rw [ayNoiseTick_noiseCnt_of_count count]
    exact lt_max_of_lt_right count
  · rw [ayNoiseTick_of_flip_up boundary flip]
    exact lt_max_of_lt_left Nat.one_pos
  · rw [ayNoiseTick_of_flip_down boundary flip]
    exact lt_max_of_lt_left Nat.one_pos

theorem envTick_envCnt_lt : (envTick m a).envCnt.toNat < max 1 (envPeriod a).toNat := by
  rcases Nat.lt_or_ge (a.envCnt.toNat + envStep m) (envPeriod a).toNat with count | boundary
  · rw [envTick_envCnt_of_count count]
    exact lt_max_of_lt_right count
  · rw [envTick_envCnt_of_boundary boundary]
    exact lt_max_of_lt_left Nat.one_pos

end

/-! The units of an SN tick. -/

section
variable {div : Fin 3 → BitVec 16} {w : Nat} {mask : BitVec 17} {b : SnBank} {c : Chan}

/-- Each channel is moved by its own divider alone. -/
theorem snTick_tone :
    (snTick div w mask b).toneCnt[c] = snToneCntNext b c ∧
    (snTick div w mask b).toneOut[c] = snToneOutNext b c := by
  have h01 : (0 : Chan) ≠ 1 := by decide
  have h02 : (0 : Chan) ≠ 2 := by decide
  have h12 : (1 : Chan) ≠ 2 := by decide
  simp only [snTick, snNoiseTick_toneCnt, snNoiseTick_toneOut, snToneTick_toneCnt,
    snToneTick_toneOut, snToneCntNext_snToneTick, snToneOutNext_snToneTick, h01, h02, h12, ne_eq,
    not_false_eq_true]
  fin_cases c <;> exact ⟨rfl, rfl⟩

/-- The noise unit is moved by its own step alone. -/
theorem snTick_noise :
    (snTick div w mask b).noiseCnt = (snNoiseTick div w mask b).noiseCnt ∧
    (snTick div w mask b).lfsr = (snNoiseTick div w mask b).lfsr ∧
    (snTick div w mask b).noiseOut = (snNoiseTick div w mask b).noiseOut := by
  simp [snTick, ← snToneTick_snNoiseTick]

theorem snToneNext_of_pinned (h : b.toneReg[c] = 0) :
    snToneCntNext b c = b.toneCnt[c] ∧ snToneOutNext b c = true :=
  ⟨if_pos h, if_pos h⟩

theorem snToneNext_of_reload (h : b.toneReg[c] ≠ 0) (hcnt : b.toneCnt[c].toNat ≤ 1) :
    snToneCntNext b c = b.toneReg[c] ∧ snToneOutNext b c = !b.toneOut[c] := by
  rw [snToneCntNext, snToneOutNext, if_neg h, if_neg h, if_pos hcnt, if_pos hcnt]
  exact ⟨rfl, rfl⟩

theorem snToneNext_of_count (h : b.toneReg[c] ≠ 0) (hcnt : 1 < b.toneCnt[c].toNat) :
    (snToneCntNext b c).toNat = b.toneCnt[c].toNat - 1 ∧ snToneOutNext b c = b.toneOut[c] := by
  have above := Nat.not_le_of_lt hcnt
  rw [snToneCntNext, snToneOutNext, if_neg h, if_neg h, if_neg above, if_neg above]
  exact ⟨by bv_omega, rfl⟩

end

/-! The SN noise: its reload value and its shift register. -/

theorem toNat_noiseRateField (r : BitVec 3) : (noiseRateField r).toNat = r.toNat % 4 := by
  simp [noiseRateField]

theorem whiteNoise_eq (r : BitVec 3) : whiteNoise r = decide (4 ≤ r.toNat) := by
  revert r
  decide

theorem snNoiseReload_of_divider (div : Fin 3 → BitVec 16) (b : SnBank) (k : Fin 3)
    (h : b.noiseReg.toNat % 4 = k.val) : snNoiseReload div b = div k := by
  rw [snNoiseReload, toNat_noiseRateField, h]
  fin_cases k <;> rfl

theorem snNoiseReload_of_tone (div : Fin 3 → BitVec 16) (b : SnBank)
    (h : b.noiseReg.toNat % 4 = 3) : (snNoiseReload div b).toNat = b.toneReg[2].toNat := by
  rw [snNoiseReload, toNat_noiseRateField, h]
  exact BitVec.toNat_setWidth_of_le (by decide)

theorem parityBelow_eq {n : Nat} (v : BitVec n) (k : Nat) :
    parityBelow v k = decide (((List.range k).filter fun i => v.getLsbD i).length % 2 = 1) := by
  induction k with
  | zero => rfl
  | succ k ih =>
    rw [parityBelow, ih, List.range_succ, List.filter_append, List.length_append]
    generalize ((List.range k).filter fun i => v.getLsbD i).length = count
    rcases Nat.mod_two_eq_zero_or_one count with even | odd
    · cases h : v.getLsbD k <;> simp [h, even, Nat.add_mod]
    · cases h : v.getLsbD k <;> simp [h, odd, Nat.add_mod]

/-- The parity is that of the number of bits set. -/
theorem parity_eq_setBits (v : BitVec 17) : parity v = decide (setBits v % 2 = 1) :=
  parityBelow_eq v 17

section
variable {white : Bool} {w : Nat} {mask x : BitVec 17}

theorem getLsbD_snShifted (hw : 1 ≤ w ∧ w ≤ 17) (i : Nat) :
    (snShifted white w mask x).getLsbD i =
      (x.getLsbD (i + 1) || (decide (i = w - 1) && snFeedback white mask x)) :=
  getLsbD_ushiftRight_or_feedback x _ (by omega) i

/-- The register keeps to its width, so the shift vacates the bit where the feedback enters. -/
theorem getLsbD_snShifted_top (hw : 1 ≤ w ∧ w ≤ 17) (hx : x.toNat < 2 ^ w) :
    (snShifted white w mask x).getLsbD (w - 1) = snFeedback white mask x := by
  have vacated : x.getLsbD (w - 1 + 1) = false := by
    rw [Nat.sub_add_cancel hw.1]
    exact Nat.testBit_lt_two_pow hx
  rw [getLsbD_snShifted hw, vacated, Bool.false_or, decide_eq_true rfl, Bool.true_and]

theorem getLsbD_snShifted_of_ne (hw : 1 ≤ w ∧ w ≤ 17) {i : Nat} (hi : i + 1 ≠ w) :
    (snShifted white w mask x).getLsbD i = x.getLsbD (i + 1) := by
  have : i ≠ w - 1 := by omega
  simp [getLsbD_snShifted hw, this]

end

end Sys2Proof.Machine

open Sys2Proof Sys2Proof.Machine

/-- Settles O19: the two fields do not overlap, so their OR is their sum. -/
theorem ayTonePeriodIsAssembled : Obligations.AyTonePeriodIsAssembled := fun a c => toNat_tonePeriod a c

/-- Settles O20, at a boundary and between two. -/
theorem ayTickMovesTheTones : Obligations.AyTickMovesTheTones := by
  intro s m hs hv
  refine ⟨_, exec_tick_ay hs hv, fun c => ?_⟩
  simp only [ayTick_tone]
  refine ⟨fun boundary => ?_, ayToneNext_of_count⟩
  obtain ⟨cnt, out⟩ := ayToneNext_of_boundary boundary
  exact ⟨by rw [cnt]; rfl, out⟩

/-- Settles O21: the noise unit counts, flips up, or flips down and shifts. -/
theorem ayTickMovesTheNoise : Obligations.AyTickMovesTheNoise := by
  intro s m hs hv
  refine ⟨_, exec_tick_ay hs hv, ?_⟩
  obtain ⟨cnt, flip, lfsr, out⟩ := ayTick_noise m s.ay
  have period := toNat_noisePeriod s.ay
  simp only [cnt, flip, lfsr, out, ← period]
  refine ⟨fun count => ?_, fun boundary => ?_⟩
  · refine ⟨ayNoiseTick_noiseCnt_of_count count, ?_⟩
    rw [ayNoiseTick_of_count count]
    exact ⟨rfl, rfl, rfl⟩
  · cases hflip : s.ay.noiseFlip
    case false =>
      rw [ayNoiseTick_of_flip_up boundary hflip]
      exact ⟨rfl, rfl, fun _ => ⟨rfl, rfl⟩, fun h => absurd h (by decide)⟩
    case true =>
      rw [ayNoiseTick_of_flip_down boundary hflip]
      refine ⟨rfl, rfl, fun h => absurd h (by decide), fun _ => ⟨toNat_ayShifted s.ay.lfsr, ?_⟩⟩
      simp [ayNoiseOutput, BitVec.getLsbD, Nat.testBit_zero]

/-- Settles O23: the counter, then the level step at a boundary, by direction, extreme and control
bits. -/
theorem ayTickMovesTheEnvelope : Obligations.AyTickMovesTheEnvelope := by
  intro s m hs hv
  refine ⟨_, exec_tick_ay hs hv, ?_⟩
  obtain ⟨cnt, level, attack, holding⟩ := ayTick_env m s.ay
  simp only [cnt, level, attack, holding, ← toNat_envPeriod, ← envStep_eq, ← envMax_eq]
  refine ⟨fun count => ⟨envTick_envCnt_of_count count, ?_⟩,
    fun boundary => by rw [envTick_envCnt_of_boundary boundary]; rfl,
    fun boundary hh => ?_, fun boundary hh htop hbottom => ?_, fun boundary hh extreme => ?_⟩
  · rw [envTick_of_count count]
    exact ⟨rfl, rfl, rfl⟩
  · rw [envTick_of_boundary_holding boundary hh]
    exact ⟨rfl, rfl, rfl⟩
  · rw [envTick_of_boundary boundary hh,
      envLevelStep_of_not_extreme (by exact not_or.mpr ⟨htop, hbottom⟩)]
    exact ⟨rfl, rfl, hh⟩
  · rw [envTick_of_boundary boundary hh, envLevelStep_of_extreme (by exact extreme)]
    refine ⟨fun hc => ?_, fun hc hhold => ?_, fun hc hhold halt => ?_, fun hc hhold halt => ?_⟩
    · rw [envTerminal_of_not_cont (by exact hc)]
      exact ⟨rfl, rfl, rfl⟩
    · rw [envTerminal_of_hold (by exact hc) (by exact hhold)]
      exact ⟨rfl, rfl, rfl⟩
    · rw [envTerminal_of_alternate (by exact hc) (by exact hhold) (by exact halt)]
      exact ⟨rfl, hh, rfl⟩
    · rw [envTerminal_of_restart (by exact hc) (by exact hhold) (by exact halt)]
      exact ⟨by rw [rampStart], hh, rfl⟩

/-- Settles O47: a counter stands at 0 after a boundary, and below the period between two. -/
theorem ayCountersStayBelowTheirPeriods : Obligations.AyCountersStayBelowTheirPeriods := by
  intro s t m h hv
  obtain ⟨-, ⟨m', -, rfl⟩ | ⟨⟨m', hv'⟩, -⟩⟩ := execTick_eq_next.mp h
  · have regs : (ayTick m' s.ay).regs = s.ay.regs := ayTick_regs m' s.ay
    obtain ⟨cnt, -, -, -⟩ := ayTick_noise m' s.ay
    obtain ⟨env, -, -, -⟩ := ayTick_env m' s.ay
    simp only [ayTick_tone, tonePeriod_congr regs, noisePeriod_congr regs, envPeriod_congr regs,
      cnt, env]
    exact ⟨fun c => ayToneCntNext_lt s.ay c, ayNoiseTick_noiseCnt_lt s.ay, envTick_envCnt_lt m' s.ay⟩
  · exact absurd (hv.symm.trans hv') (by simp)

/-- Settles O26, by the three cases of a divider. -/
theorem snTickMovesTheTones : Obligations.SnTickMovesTheTones := by
  intro s m hs hv
  refine ⟨_, exec_tick_sn hs hv, fun c => ?_⟩
  have zero : s.sn.toneReg[c].toNat = 0 ↔ s.sn.toneReg[c] = 0 :=
    (BitVec.toNat_eq (y := 0)).symm
  simp only [snTick_tone, zero, ne_eq]
  exact ⟨snToneNext_of_pinned, snToneNext_of_reload, snToneNext_of_count⟩

/-- Settles O27: the counter, the reload value, and the shifted register bit by bit. -/
theorem snTickMovesTheNoise : Obligations.SnTickMovesTheNoise := by
  intro s m hs hv hfits
  refine ⟨_, exec_tick_sn hs hv, ?_⟩
  obtain ⟨hlow, hhigh, -, hlfsr⟩ := hfits
  obtain ⟨cnt, lfsr, out⟩ := snTick_noise (div := Config.snNoiseDiv) (w := s.tapWidth)
    (mask := s.feedbackMask) (b := s.sn)
  simp only [cnt, lfsr, out]
  refine ⟨fun count => ?_, fun reload => ?_⟩
  · rw [snNoiseTick_of_count count]
    exact ⟨by bv_omega, rfl, rfl⟩
  · rw [snNoiseTick_of_reload reload]
    simp only [snLfsrShift_noiseCnt, snLfsrShift_lfsr, snLfsrShift_noiseOut,
      getLsbD_snShifted_top ⟨hlow, hhigh⟩ hlfsr]
    refine ⟨fun k => snNoiseReload_of_divider _ _ k, snNoiseReload_of_tone _ _, rfl,
      fun i => getLsbD_snShifted_of_ne ⟨hlow, hhigh⟩, fun periodic => ?_, fun white => ?_⟩
    · rw [whiteNoise_eq, decide_eq_false (Nat.not_le_of_lt periodic)]
      rfl
    · rw [whiteNoise_eq, decide_eq_true white, snFeedback, if_pos rfl, parity_eq_setBits,
        decide_eq_true_iff]
end

section
/-! PROOFS. Runs of `TICK` from a chip whose registers stand: how often a divider flips, and when the
noise shifts (41_tone.md, 42_noise.md, derived properties). -/

namespace Sys2Proof.Machine

/-! A run of ticks is the iterate of one. -/

theorem tickTimes_succ {k : Nat} {s t : State} (h : exec .tick s = .next t) :
    tickTimes (k + 1) s = tickTimes k t := by
  simp only [tickTimes, h]

theorem tickTimes_ay {m : AyModel} (k : Nat) {s : State} (hs : s.initialised = true)
    (hv : s.variant = .ay m) :
    ∃ t, tickTimes k s = .next t ∧ t.ay = (ayTick m)^[k] s.ay := by
  induction k generalizing s with
  | zero => exact ⟨s, rfl, rfl⟩
  | succ k ih =>
    rw [tickTimes_succ (exec_tick_ay hs hv)]
    exact ih hs hv

theorem tickTimes_sn {m : SnModel} (k : Nat) {s : State} (hs : s.initialised = true)
    (hv : s.variant = .sn m) :
    ∃ t, tickTimes k s = .next t ∧
      t.sn = (snTick Config.snNoiseDiv s.tapWidth s.feedbackMask)^[k] s.sn := by
  induction k generalizing s with
  | zero => exact ⟨s, rfl, rfl⟩
  | succ k ih =>
    rw [tickTimes_succ (exec_tick_sn hs hv), Function.iterate_succ_apply]
    generalize snTick Config.snNoiseDiv s.tapWidth s.feedbackMask s.sn = b
    exact ih (s := { s with sn := b, result := none }) hs hv

/-- What one step keeps, every number of steps keeps. -/
theorem iterate_keeps {α β : Type} {g : α → α} {f : α → β} (h : ∀ a, f (g a) = f a) (k : Nat) (a : α) :
    f (g^[k] a) = f a := by
  have fixed : Function.Semiconj f g id := h
  rw [(fixed.iterate_right k).eq, Function.iterate_id, id]

/-! Counting to a period `p`, one tick at a time. -/

section
variable {k p : Nat}

theorem succ_div_mod_of_lt (h : k % p + 1 < p) :
    (k + 1) / p = k / p ∧ (k + 1) % p = k % p + 1 := by
  have split := Nat.mod_add_div k p
  exact (Nat.div_mod_unique (by omega)).mpr ⟨by omega, h⟩

theorem succ_div_mod_of_boundary (hp : 0 < p) (h : p ≤ k % p + 1) :
    (k + 1) / p = k / p + 1 ∧ (k + 1) % p = 0 := by
  have split := Nat.mod_add_div k p
  have below := Nat.mod_lt k hp
  exact (Nat.div_mod_unique hp).mpr ⟨by rw [Nat.mul_succ]; omega, hp⟩

theorem decide_odd_succ (q : Nat) : decide ((q + 1) % 2 = 1) = !decide (q % 2 = 1) := by
  rcases Nat.mod_two_eq_zero_or_one q with even | odd
  · simp [even, Nat.add_mod]
  · simp [odd, Nat.add_mod]

end

/-! The tones of either family. -/

theorem iterate_ayTick_tone {m : AyModel} {a : AyBank} {c : Chan} (hcnt : a.toneCnt[c] = 0)
    (hp : 1 ≤ (tonePeriod a c).toNat) (k : Nat) :
    ((ayTick m)^[k] a).toneCnt[c].toNat = k % (tonePeriod a c).toNat ∧
    ((ayTick m)^[k] a).toneOut[c] =
      (a.toneOut[c] ^^ decide (k / (tonePeriod a c).toNat % 2 = 1)) := by
  induction k with
  | zero => simp [hcnt]
  | succ k ih =>
    obtain ⟨cnt, out⟩ := ih
    have period : tonePeriod ((ayTick m)^[k] a) c = tonePeriod a c :=
      tonePeriod_congr (iterate_keeps (ayTick_regs m) k a)
    rw [Function.iterate_succ_apply', (ayTick_tone m _ c).1, (ayTick_tone m _ c).2]
    rcases Nat.lt_or_ge (k % (tonePeriod a c).toNat + 1) (tonePeriod a c).toNat with count | boundary
    · obtain ⟨cnt', out'⟩ := ayToneNext_of_count (a := (ayTick m)^[k] a) (c := c)
        (by rw [period, cnt]; exact count)
      obtain ⟨quotient, remainder⟩ := succ_div_mod_of_lt count
      exact ⟨by rw [cnt', cnt, remainder], by rw [out', out, quotient]⟩
    · obtain ⟨cnt', out'⟩ := ayToneNext_of_boundary (a := (ayTick m)^[k] a) (c := c)
        (by rw [period, cnt]; exact boundary)
      obtain ⟨quotient, remainder⟩ := succ_div_mod_of_boundary hp boundary
      exact ⟨by rw [cnt', remainder]; rfl,
        by rw [out', out, quotient, decide_odd_succ, Bool.xor_not]⟩

section
variable {div : Fin 3 → BitVec 16} {w : Nat} {mask : BitVec 17} {b : SnBank} {c : Chan}

theorem iterate_snTick_tone (hcnt : b.toneCnt[c] = b.toneReg[c]) (hp : 1 ≤ b.toneReg[c].toNat)
    (k : Nat) :
    ((snTick div w mask)^[k] b).toneCnt[c].toNat =
      b.toneReg[c].toNat - k % b.toneReg[c].toNat ∧
    ((snTick div w mask)^[k] b).toneOut[c] =
      (b.toneOut[c] ^^ decide (k / b.toneReg[c].toNat % 2 = 1)) := by
  induction k with
  | zero => simp [hcnt]
  | succ k ih =>
    obtain ⟨cnt, out⟩ := ih
    have period : ((snTick div w mask)^[k] b).toneReg = b.toneReg :=
      iterate_keeps (snTick_toneReg div w mask) k b
    have nonzero : ((snTick div w mask)^[k] b).toneReg[c] ≠ 0 := by
      rw [period]
      bv_omega
    have below := Nat.mod_lt k hp
    rw [Function.iterate_succ_apply', snTick_tone.1, snTick_tone.2]
    rcases Nat.lt_or_ge (k % b.toneReg[c].toNat + 1) b.toneReg[c].toNat with count | boundary
    · obtain ⟨cnt', out'⟩ := snToneNext_of_count nonzero (by omega)
      obtain ⟨quotient, remainder⟩ := succ_div_mod_of_lt count
      exact ⟨by rw [cnt', cnt, remainder, Nat.sub_sub], by rw [out', out, quotient]⟩
    · obtain ⟨cnt', out'⟩ := snToneNext_of_reload nonzero (by omega)
      obtain ⟨quotient, remainder⟩ := succ_div_mod_of_boundary hp boundary
      exact ⟨by rw [cnt', period, remainder, Nat.sub_zero],
        by rw [out', out, quotient, decide_odd_succ, Bool.xor_not]⟩

theorem snTick_tone_of_pinned (h : b.toneReg[c] = 0) :
    (snTick div w mask b).toneCnt[c] = b.toneCnt[c] ∧ (snTick div w mask b).toneOut[c] = true := by
  rw [snTick_tone.1, snTick_tone.2]
  exact snToneNext_of_pinned h

theorem iterate_snTick_tone_of_pinned (h : b.toneReg[c] = 0) (k : Nat) :
    ((snTick div w mask)^[k + 1] b).toneOut[c] = true ∧
    ((snTick div w mask)^[k + 1] b).toneCnt[c] = b.toneCnt[c] := by
  induction k generalizing b with
  | zero =>
    rw [Function.iterate_one]
    exact (snTick_tone_of_pinned h).symm
  | succ k ih =>
    obtain ⟨out, cnt⟩ := ih (b := snTick div w mask b) (by rw [snTick_toneReg]; exact h)
    rw [Function.iterate_succ_apply]
    exact ⟨out, cnt.trans (snTick_tone_of_pinned h).1⟩

end

/-! The AY noise. -/

theorem div_two_mul (k p : Nat) : k / (2 * p) = k / p / 2 := by
  rw [Nat.div_div_eq_div_mul, Nat.mul_comm]

/-- The noise unit after `k` ticks: `p` is the period, 0 counting as 1 (D5). -/
theorem iterate_ayTick_noise {m : AyModel} {a : AyBank} (hcnt : a.noiseCnt = 0)
    (hflip : a.noiseFlip = false) {p : Nat} (hp : p = max 1 (noisePeriod a).toNat) (k : Nat) :
    ((ayTick m)^[k] a).noiseCnt.toNat = k % p ∧
    ((ayTick m)^[k] a).noiseFlip = decide (k / p % 2 = 1) ∧
    ((ayTick m)^[k] a).lfsr = ayShifted^[k / p / 2] a.lfsr := by
  have hpos : 0 < p := by omega
  induction k with
  | zero => simp [hcnt, hflip]
  | succ k ih =>
    obtain ⟨cnt, flip, lfsr⟩ := ih
    have period : noisePeriod ((ayTick m)^[k] a) = noisePeriod a :=
      noisePeriod_congr (iterate_keeps (ayTick_regs m) k a)
    obtain ⟨cntTick, flipTick, lfsrTick, -⟩ := ayTick_noise m ((ayTick m)^[k] a)
    rw [Function.iterate_succ_apply', cntTick, flipTick, lfsrTick]
    rcases Nat.lt_or_ge (k % p + 1) p with count | boundary
    · have hcount : ((ayTick m)^[k] a).noiseCnt.toNat + 1 < (noisePeriod ((ayTick m)^[k] a)).toNat := by
        rw [period, cnt]
        omega
      obtain ⟨quotient, remainder⟩ := succ_div_mod_of_lt count
      rw [ayNoiseTick_noiseCnt_of_count hcount, ayNoiseTick_of_count hcount, quotient, remainder]
      exact ⟨by rw [cnt], flip, lfsr⟩
    · have hboundary :
          (noisePeriod ((ayTick m)^[k] a)).toNat ≤ ((ayTick m)^[k] a).noiseCnt.toNat + 1 := by
        rw [period, cnt]
        omega
      obtain ⟨quotient, remainder⟩ := succ_div_mod_of_boundary hpos boundary
      rw [quotient, remainder, decide_odd_succ, ← flip]
      cases half : ((ayTick m)^[k] a).noiseFlip
      case false =>
        rw [half, eq_comm, decide_eq_false_iff_not] at flip
        have same : (k / p + 1) / 2 = k / p / 2 := by omega
        rw [ayNoiseTick_of_flip_up hboundary half, same]
        exact ⟨rfl, rfl, lfsr⟩
      case true =>
        rw [half, eq_comm, decide_eq_true_iff] at flip
        have next : (k / p + 1) / 2 = k / p / 2 + 1 := by omega
        rw [ayNoiseTick_of_flip_down hboundary half, next, Function.iterate_succ_apply', ← lfsr]
        exact ⟨rfl, rfl, rfl⟩

end Sys2Proof.Machine

open Sys2Proof Sys2Proof.Machine

/-- Settles O48, by induction on the number of ticks. -/
theorem ayToneFlipsOncePerPeriod : Obligations.AyToneFlipsOncePerPeriod := by
  intro k s m c hs hv hcnt hp
  obtain ⟨t, run, hay⟩ := tickTimes_ay k hs hv
  exact ⟨t, run, by rw [hay]; exact iterate_ayTick_tone hcnt hp k⟩

/-- Settles O49, by induction on the number of ticks for each of the two kinds of period. -/
theorem snToneFlipsOncePerPeriod : Obligations.SnToneFlipsOncePerPeriod := by
  intro k s m c hs hv
  refine ⟨fun hp hcnt => ?_, fun hp => ?_⟩
  · obtain ⟨t, run, hsn⟩ := tickTimes_sn k hs hv
    exact ⟨t, run, by rw [hsn]; exact iterate_snTick_tone hcnt hp k⟩
  · obtain ⟨t, run, hsn⟩ := tickTimes_sn (k + 1) hs hv
    exact ⟨t, run, by rw [hsn]; exact iterate_snTick_tone_of_pinned hp k⟩

/-- Settles O50, by induction on the number of ticks. -/
theorem ayNoiseShiftsEveryTwoPeriods : Obligations.AyNoiseShiftsEveryTwoPeriods := by
  intro k s m hs hv hcnt hflip
  obtain ⟨t, run, hay⟩ := tickTimes_ay k hs hv
  obtain ⟨-, flip, lfsr⟩ := iterate_ayTick_noise (m := m) hcnt hflip rfl k
  exact ⟨t, run, by rw [hay, lfsr, div_two_mul], by rw [hay, flip]⟩
end

section
/-! PROOFS. The shapes of the envelope: the level after any number of ticks from a re-arm, with a period
that makes every tick a boundary (43_envelope.md R108). -/

namespace Sys2Proof.Machine

/-- The level `r` steps into a ramp of the given direction. -/
def rampLevel (M : Nat) (up : Bool) (r : Nat) : Nat := if up then r else M - r

/-- The envelope unit's direction, freeze flag and level. -/
structure EnvAt (a : AyBank) (up holding : Bool) (level : Nat) : Prop where
  attack : a.envAttack = up
  holding : a.envHolding = holding
  level : a.envLevel.toNat = level

section
variable {m : AyModel} {a : AyBank} {up : Bool}

theorem EnvAt.of_ayTick_eq {b : AyBank} {holding : Bool} {level : Nat} (h : envTick m a = b)
    (hb : EnvAt b up holding level) : EnvAt (ayTick m a) up holding level := by
  obtain ⟨-, hlevel, hattack, hholding⟩ := ayTick_env m a
  subst h
  exact ⟨hattack.trans hb.attack, hholding.trans hb.holding, (congrArg _ hlevel).trans hb.level⟩

theorem EnvAt.frozen {level : Nat} (hp : (envPeriod a).toNat ≤ envStep m) (h : EnvAt a up true level) :
    EnvAt (ayTick m a) up true level :=
  .of_ayTick_eq (envTick_of_boundary_holding (by omega) h.holding) ⟨h.attack, h.holding, h.level⟩

theorem EnvAt.ramp {r : Nat} (hp : (envPeriod a).toNat ≤ envStep m)
    (h : EnvAt a up false (rampLevel (envMax m).toNat up r)) (hr : r < (envMax m).toNat) :
    EnvAt (ayTick m a) up false (rampLevel (envMax m).toNat up (r + 1)) := by
  obtain ⟨attack, holding, level⟩ := h
  have fits := (envMax m).isLt
  cases up
  case false =>
    have level' : a.envLevel.toNat = (envMax m).toNat - r := level
    refine .of_ayTick_eq ((envTick_of_boundary (by omega) holding).trans
      (envLevelStep_of_falling attack fun bottom => ?_)) ⟨attack, holding, ?_⟩
    · have : a.envLevel.toNat = 0 := congrArg BitVec.toNat bottom
      omega
    · change (a.envLevel - 1).toNat = (envMax m).toNat - (r + 1)
      bv_omega
  case true =>
    have level' : a.envLevel.toNat = r := level
    refine .of_ayTick_eq ((envTick_of_boundary (by omega) holding).trans
      (envLevelStep_of_rising attack fun top => ?_)) ⟨attack, holding, ?_⟩
    · have : a.envLevel.toNat = (envMax m).toNat := congrArg BitVec.toNat top
      omega
    · change (a.envLevel + 1).toNat = r + 1
      bv_omega

theorem EnvAt.envTick_at_end (hp : (envPeriod a).toNat ≤ envStep m)
    (h : EnvAt a up false (rampLevel (envMax m).toNat up (envMax m).toNat)) :
    envTick m a = envTerminal m { a with envCnt := 0 } := by
  obtain ⟨attack, holding, level⟩ := h
  rw [envTick_of_boundary (by omega) holding]
  apply envLevelStep_of_extreme
  cases up
  case false => exact .inr ⟨attack, BitVec.eq_of_toNat_eq (level.trans (Nat.sub_self _))⟩
  case true => exact .inl ⟨attack, BitVec.eq_of_toNat_eq level⟩

end

theorem toNat_rampStart (m : AyModel) (att : Bool) :
    (rampStart m att).toNat = rampLevel (envMax m).toNat att 0 := by
  cases att <;> rfl

/-! The four arms of the terminal rule, where a ramp stops. -/

section
variable {m : AyModel} {a : AyBank} {up : Bool} (hp : (envPeriod a).toNat ≤ envStep m)
  (h : EnvAt a up false (rampLevel (envMax m).toNat up (envMax m).toNat))
include hp h

theorem EnvAt.ends_off (hc : a.envCont = false) : EnvAt (ayTick m a) up true 0 :=
  .of_ayTick_eq ((h.envTick_at_end hp).trans (envTerminal_of_not_cont hc)) ⟨h.attack, rfl, rfl⟩

theorem EnvAt.ends_held (hc : a.envCont = true) (hh : a.envHold = true) :
    EnvAt (ayTick m a) up true (if up = a.envAlt then 0 else (envMax m).toNat) := by
  refine .of_ayTick_eq ((h.envTick_at_end hp).trans (envTerminal_of_hold hc hh)) ⟨h.attack, rfl, ?_⟩
  obtain ⟨-, -, level⟩ := h
  cases up
  case false =>
    have bottom : a.envLevel = 0 := BitVec.eq_of_toNat_eq (level.trans (Nat.sub_self _))
    cases halt : a.envAlt <;> simp [bottom]
  case true =>
    have top : a.envLevel = envMax m := BitVec.eq_of_toNat_eq level
    cases halt : a.envAlt <;> simp [top]

theorem EnvAt.ends_turning (hc : a.envCont = true) (hh : a.envHold = false) (ha : a.envAlt = true) :
    EnvAt (ayTick m a) (!up) false (rampLevel (envMax m).toNat (!up) 0) := by
  refine .of_ayTick_eq ((h.envTick_at_end hp).trans (envTerminal_of_alternate hc hh ha))
    ⟨congrArg Bool.not h.attack, h.holding, h.level.trans ?_⟩
  cases up <;> simp [rampLevel]

theorem EnvAt.ends_restarting (hc : a.envCont = true) (hh : a.envHold = false)
    (ha : a.envAlt = false) (hatt : a.envAtt = up) :
    EnvAt (ayTick m a) up false (rampLevel (envMax m).toNat up 0) := by
  refine .of_ayTick_eq ((h.envTick_at_end hp).trans (envTerminal_of_restart hc hh ha))
    ⟨h.attack, h.holding, ?_⟩
  subst hatt
  exact toNat_rampStart m a.envAtt

end

/-- A bank after the re-arm: the direction and the level of the ramp's start (43_envelope.md R104),
with a period that makes every tick a boundary. -/
structure Rearmed (m : AyModel) (a : AyBank) : Prop where
  period : (envPeriod a).toNat ≤ envStep m
  start : EnvAt a a.envAtt false (rampLevel (envMax m).toNat a.envAtt 0)

section
variable {m : AyModel} {a : AyBank}

theorem Rearmed.period_after (h : Rearmed m a) (k : Nat) :
    (envPeriod ((ayTick m)^[k] a)).toNat ≤ envStep m := by
  rw [envPeriod_congr (iterate_keeps (ayTick_regs m) k a)]
  exact h.period

/-- The first ramp, whatever the control bits. -/
theorem Rearmed.first_ramp (h : Rearmed m a) {k : Nat} (hk : k ≤ (envMax m).toNat) :
    EnvAt ((ayTick m)^[k] a) a.envAtt false (rampLevel (envMax m).toNat a.envAtt k) := by
  induction k with
  | zero => exact h.start
  | succ k ih =>
    rw [Function.iterate_succ_apply']
    exact (ih (by omega)).ramp (h.period_after k) hk

/-- Where the shape holds, the level is frozen once the first ramp is over. -/
theorem Rearmed.frozen_after (h : Rearmed m a) (hshape : a.envCont = false ∨ a.envHold = true) {k : Nat}
    (hk : (envMax m).toNat < k) :
    EnvAt ((ayTick m)^[k] a) a.envAtt true
      (if a.envCont = false then 0 else if a.envAtt = a.envAlt then 0 else (envMax m).toNat) := by
  induction k, hk using Nat.le_induction with
  | base =>
    have last := h.first_ramp le_rfl
    have period := h.period_after (envMax m).toNat
    have cont := iterate_keeps (ayTick_envCont m) (envMax m).toNat a
    have hold := iterate_keeps (ayTick_envHold m) (envMax m).toNat a
    have alt := iterate_keeps (ayTick_envAlt m) (envMax m).toNat a
    rw [Function.iterate_succ_apply']
    cases hc : a.envCont
    case false => exact last.ends_off period (cont.trans hc)
    case true =>
      have held := last.ends_held period (cont.trans hc)
        (hold.trans (hshape.resolve_left (by simp [hc])))
      rw [alt] at held
      exact held
  | succ k hk ih =>
    rw [Function.iterate_succ_apply']
    exact ih.frozen (h.period_after k)

/-- The direction of the ramp that tick `k` belongs to: the alternate rule turns every second one. -/
def rampUp (M : Nat) (att alt : Bool) (k : Nat) : Bool := att ^^ (alt && decide (k / (M + 1) % 2 = 1))

/-- Where the shape repeats, the level ramps for ever. -/
theorem Rearmed.repeating (h : Rearmed m a) (hc : a.envCont = true) (hh : a.envHold = false) (k : Nat) :
    EnvAt ((ayTick m)^[k] a) (rampUp (envMax m).toNat a.envAtt a.envAlt k) false
      (rampLevel (envMax m).toNat (rampUp (envMax m).toNat a.envAtt a.envAlt k)
        (k % ((envMax m).toNat + 1))) := by
  induction k with
  | zero => simpa [rampUp] using h.start
  | succ k ih =>
    have period := h.period_after k
    have cont := (iterate_keeps (ayTick_envCont m) k a).trans hc
    have hold := (iterate_keeps (ayTick_envHold m) k a).trans hh
    have att := iterate_keeps (ayTick_envAtt m) k a
    have alt := iterate_keeps (ayTick_envAlt m) k a
    rw [Function.iterate_succ_apply']
    rcases Nat.lt_or_ge (k % ((envMax m).toNat + 1) + 1) ((envMax m).toNat + 1) with inside | last
    · obtain ⟨quotient, remainder⟩ := succ_div_mod_of_lt inside
      rw [rampUp, quotient, remainder]
      exact ih.ramp period (Nat.lt_of_succ_lt_succ inside)
    · obtain ⟨quotient, remainder⟩ := succ_div_mod_of_boundary (Nat.succ_pos _) last
      have hend : k % ((envMax m).toNat + 1) = (envMax m).toNat := by
        have : k % ((envMax m).toNat + 1) < (envMax m).toNat + 1 := Nat.mod_lt k (Nat.succ_pos _)
        omega
      rw [hend] at ih
      rw [rampUp, quotient, remainder, decide_odd_succ]
      cases halt : a.envAlt
      case false =>
        have restarted := ih.ends_restarting period cont hold (alt.trans halt)
          (by rw [att, rampUp, halt, Bool.false_and, Bool.xor_false])
        simpa [rampUp, halt] using restarted
      case true =>
        have turned := ih.ends_turning period cont hold (alt.trans halt)
        simpa [rampUp, halt] using turned

end

/-! The same three regimes in the table of shapes. -/

section
variable {M k : Nat} {cont att alt hold : Bool}

theorem shapeLevel_of_le (h : k ≤ M) : shapeLevel M cont att alt hold k = rampLevel M att k :=
  if_pos h

theorem shapeLevel_of_frozen (hk : M < k) (hshape : cont = false ∨ hold = true) :
    shapeLevel M cont att alt hold k =
      if cont = false then 0 else if att = alt then 0 else M := by
  rw [shapeLevel, if_neg (Nat.not_le_of_lt hk)]
  obtain rfl | rfl := hshape
  · simp
  · simp

theorem shapeLevel_of_repeating :
    shapeLevel M true att alt false k = rampLevel M (rampUp M att alt k) (k % (M + 1)) := by
  rcases Nat.lt_or_ge M k with beyond | first
  · rw [shapeLevel, if_neg (Nat.not_le_of_lt beyond)]
    cases alt <;> simp [rampLevel, rampUp]
  · rw [shapeLevel_of_le first, rampUp, Nat.div_eq_of_lt (Nat.lt_succ_of_le first),
      Nat.mod_eq_of_lt (Nat.lt_succ_of_le first)]
    simp

end

theorem Rearmed.level_after {m : AyModel} {a : AyBank} (h : Rearmed m a) (k : Nat) :
    ((ayTick m)^[k] a).envLevel.toNat =
      shapeLevel (envMax m).toNat a.envCont a.envAtt a.envAlt a.envHold k := by
  by_cases hshape : a.envCont = false ∨ a.envHold = true
  · rcases Nat.lt_or_ge (envMax m).toNat k with beyond | first
    · rw [(h.frozen_after hshape beyond).level, shapeLevel_of_frozen beyond hshape]
    · rw [(h.first_ramp first).level, shapeLevel_of_le first]
  · obtain ⟨hc, hh⟩ := not_or.mp hshape
    rw [Bool.not_eq_false] at hc
    rw [Bool.not_eq_true] at hh
    rw [(h.repeating hc hh k).level, hc, hh, shapeLevel_of_repeating]

theorem rearmed_storeAyReg {m : AyModel} {a : AyBank} (d : Byte)
    (hp : (envPeriod a).toNat ≤ envStep m) : Rearmed m (storeAyReg m 13 d a) where
  period := by
    have : envPeriod (storeAyReg m 13 d a) = envPeriod a := by
      simp [envPeriod, storeAyReg_regs]
    rw [this]
    exact hp
  start := ⟨rfl, rfl, toNat_rampStart m _⟩

end Sys2Proof.Machine

open Sys2Proof Sys2Proof.Machine

/-- Settles O53: the first ramp, then the frozen level or the repeated ramps. -/
theorem envelopeFollowsItsShape : Obligations.EnvelopeFollowsItsShape := by
  intro k s t m d hv h hp
  obtain ⟨hs, m', hv', rfl⟩ := ayDataWrite_eq_next.mp h
  obtain rfl : m = m' := by simpa [hv] using hv'
  obtain ⟨u, run, hay⟩ :=
    tickTimes_ay k (s := { s with ay := storeAyReg m 13 d s.ay, result := none }) hs hv
  have level := (rearmed_storeAyReg d hp).level_after k
  exact ⟨u, run, by rw [hay, level, storeAyReg_shape]; rfl⟩
end

section
/-! PROOFS. The queries, `INIT` and the amplitude tables (45_mixer.md, 46_host_ops.md,
70_reset_and_hazards.md, 40_amplitude_table.md). -/

namespace Sys2Proof.Machine

/-! The samples of the mixer. -/

theorem aySample_eq (m : AyModel) (a : AyBank) (c : Chan) :
    aySample m a c =
      if (a.regs[7].getLsbD c.val = true ∨ a.toneOut[c] = true) ∧
          (a.regs[7].getLsbD (3 + c.val) = true ∨ a.noiseOut = true) then
        if (a.regs[amplitudeIndex c]).getLsbD 4 = true then envTable m c a.envLevel
        else volTable m c (BitVec.ofNat 4 (a.regs[amplitudeIndex c].toNat % 16))
      else 0 := by
  have volume : volumeField a c = BitVec.ofNat 4 (a.regs[amplitudeIndex c].toNat % 16) :=
    extractLsb'_zero_eq_ofNat _ _
  simp only [aySample, ayAmplitude, envelopeEnable, volume, gate_eq_register_bits, Bool.and_eq_true,
    Bool.or_eq_true]

/-! `INIT`. -/

theorem toNat_snSeed {w : Nat} (hlow : 1 ≤ w) (hhigh : w ≤ 17) : (snSeed w).toNat = 2 ^ (w - 1) := by
  have fits : 2 ^ (w - 1) < 2 ^ 17 := Nat.pow_lt_pow_right (by decide) (by omega)
  rw [snSeed, BitVec.toNat_shiftLeft, BitVec.toNat_one (by decide), Nat.shiftLeft_eq, Nat.one_mul,
    Nat.mod_eq_of_lt fits]

theorem noiseConfigLegal_iff {W M : Nat} :
    noiseConfigLegal ⟨W, M⟩ = true ↔ 1 ≤ W ∧ W ≤ 17 ∧ M < 2 ^ W :=
  decide_eq_true_iff

theorem variantOfCode_of_ge {v : BitVec 4} (h : 4 ≤ v.toNat) : variantOfCode v = none := by
  unfold variantOfCode
  split
  case h_5 => rfl
  all_goals omega

theorem execInit_of_config {v : BitVec 4} {noise : Option NoiseConfig} {var : Variant} {c : NoiseConfig}
    (s : State) (hvar : variantOfCode v = some var) (hc : noiseConfigFor var noise = some c) :
    exec (.init v noise) s = .next (initialisedAs var c s.pending) :=
  exec_init_eq_next.mpr ⟨var, c, hvar, hc, rfl⟩

theorem execInit_of_no_config {v : BitVec 4} {noise : Option NoiseConfig} {var : Variant} (s : State)
    (hvar : variantOfCode v = some var) (hc : noiseConfigFor var noise = none) :
    exec (.init v noise) s = .refused .badNoiseConfig := by
  change execInit v noise s = _
  simp only [execInit, hvar, hc]

theorem execInit_of_no_variant {v : BitVec 4} {noise : Option NoiseConfig} (s : State)
    (hvar : variantOfCode v = none) : exec (.init v noise) s = .refused .unknownVariant := by
  change execInit v noise s = _
  simp only [execInit, hvar]

theorem noiseConfigFor_sn_legal (m : SnModel) {W M : Nat} (h : 1 ≤ W ∧ W ≤ 17 ∧ M < 2 ^ W) :
    noiseConfigFor (.sn m) (some ⟨W, M⟩) = some ⟨W, M⟩ :=
  if_pos (noiseConfigLegal_iff.mpr h)

theorem noiseConfigFor_sn_illegal (m : SnModel) {W M : Nat} (h : ¬ (1 ≤ W ∧ W ≤ 17 ∧ M < 2 ^ W)) :
    noiseConfigFor (.sn m) (some ⟨W, M⟩) = none :=
  if_neg (mt noiseConfigLegal_iff.mp h)

/-! The amplitude tables. -/

theorem tableEntry_zero_of_zeroIsOff {p : Profile} (h : Config.zeroIsOff p = true) (mode : TableMode)
    (load : ℝ) : tableEntry p mode load 0 = 0 := by
  simp [tableEntry, tableFirst, tableClimb, h]

end Sys2Proof.Machine

open Sys2Proof Sys2Proof.Machine

/-- Settles O28: the gate and the two fields of the amplitude register, as bits and as a number. -/
theorem aySampleIsTheGatedAmplitude : Obligations.AySampleIsTheGatedAmplitude := by
  intro s m hs hv sample
  refine ⟨_, execGetSamples_eq_next.mpr ⟨hs, rfl⟩, rfl, ?_⟩
  have value (c : Chan) : aySample m s.ay c = sample c := aySample_eq m s.ay c
  simp only [sampleOf, hv, value]

/-- Settles O30: the sum over the four channels, each side by its four bits of the mask. -/
theorem snSampleIsTheStereoSum : Obligations.SnSampleIsTheStereoSum := by
  intro s m hs hv amp noise side
  refine ⟨_, execGetSamples_eq_next.mpr ⟨hs, rfl⟩, rfl, ?_⟩
  have left : snSide s.sn (leftEnabled s.sn.stereo) = side 4 := rfl
  have right : snSide s.sn (rightEnabled s.sn.stereo) = side 0 := rfl
  simp only [sampleOf, hv, left, right]

/-- Settles O31: the query writes its own result alone, which it does not read. -/
theorem sampleQueryIsPure : Obligations.SampleQueryIsPure := by
  intro s t h
  obtain ⟨hs, rfl⟩ := execGetSamples_eq_next.mp h
  exact ⟨rfl, execGetSamples_eq_next.mpr ⟨hs, rfl⟩⟩

/-- Settles O32: each code names its variant, each legal operand is taken, and every field stands at its
reset value. -/
theorem initResetsEverything : Obligations.InitResetsEverything := by
  intro s noise v var W M h
  have operands : variantOfCode v = some var ∧ noiseConfigFor var noise = some ⟨W, M⟩ ∧
      1 ≤ W ∧ W ≤ 17 ∧ M < 2 ^ W := by
    obtain ⟨rfl, rfl, rfl, rfl⟩ | ⟨rfl, rfl, rfl, rfl⟩ | ⟨code, config⟩ := h
    · exact ⟨rfl, rfl, by decide⟩
    · exact ⟨rfl, rfl, by decide⟩
    · obtain ⟨m, hvar, rfl⟩ : ∃ m, variantOfCode v = some var ∧ var = .sn m := by
        obtain ⟨rfl, rfl⟩ | ⟨rfl, rfl⟩ := code <;> exact ⟨_, rfl, rfl⟩
      obtain ⟨rfl, rfl, rfl⟩ | ⟨rfl, legal⟩ := config
      · exact ⟨hvar, rfl, by decide⟩
      · exact ⟨hvar, noiseConfigFor_sn_legal m legal, legal⟩
  obtain ⟨hvar, hconfig, hlow, hhigh, hmask⟩ := operands
  have mask : (BitVec.ofNat 17 M).toNat = M :=
    toNat_ofNat_word (hmask.trans_le (Nat.pow_le_pow_right (by decide) hhigh))
  have seed : (snSeed W).toNat = 2 ^ (W - 1) := toNat_snSeed hlow hhigh
  refine ⟨_, execInit_of_config s hvar hconfig, ?_⟩
  simp +decide [ayReset, snReset, aySeed, mask, seed]

/-- Settles O33, by the two checks of `INIT`. -/
theorem initRefusesBadOperands : Obligations.InitRefusesBadOperands := by
  intro s v
  refine ⟨fun noise h => execInit_of_no_variant s (variantOfCode_of_ge h), fun W M code illegal => ?_⟩
  obtain ⟨m, hvar⟩ : ∃ m, variantOfCode v = some (.sn m) := by
    unfold variantOfCode
    obtain code | code := code <;> rw [code] <;> exact ⟨_, rfl⟩
  exact execInit_of_no_config s hvar (noiseConfigFor_sn_illegal m (by omega))

/-- Settles O34, by the family of the variant. -/
theorem clockDivisorIsTheFamilys : Obligations.ClockDivisorIsTheFamilys := by
  intro s hs
  refine ⟨_, execGetClockDivisor_eq_next.mpr ⟨hs, rfl⟩, rfl, ?_, ?_⟩
  all_goals
    rintro ⟨m, hv⟩
    simp only [clockDivisor, hv, familyOf, clockDiv]

/-- Settles O35: the quotient of the model times the divisor is the clock. -/
theorem sampleRateIsTheExactQuotient : Obligations.SampleRateIsTheExactQuotient := by
  intro s clockHz hs
  refine ⟨_, _, execGetSampleRate_eq_next.mpr ⟨hs, rfl⟩, rfl, rfl, ?_, ?_⟩
  all_goals
    rintro ⟨m, hv⟩
    simp only [clockDivisor, hv, familyOf, clockDiv, Rat.mkRat_eq_div]
    norm_num

/-- Settles O55: no rise comes before entry 0, and a channel enters its tables by its load alone. -/
theorem ayTablesFollowProfileAndLoad : Obligations.AyTablesFollowProfileAndLoad := by
  refine ⟨fun c => ⟨fun h => ⟨?_, ?_⟩, fun h => ?_, fun h => ?_⟩, fun m c e hload => ⟨?vol, ?env⟩⟩
  case vol => funext v; rw [volTable, volTable, hload]
  case env => funext l; rw [envTable, envTable, hload]
  all_goals exact tableEntry_zero_of_zeroIsOff h _ _
end

section
/-! PROOFS. The shifts of the noise registers: the AY one is invertible, the SN one keeps to its width
and gives zero only in white mode with a mask without bit 0 (42_noise.md, derived properties). -/

namespace Sys2Proof.Machine

/-- The shift moves the bits above bit 0 down, and its feedback tells bit 0 once bit 3 is known. -/
theorem ayShifted_injective : Function.Injective ayShifted := by
  intro x y h
  have above (i : Nat) (hi : i < 16) : x.getLsbD (i + 1) = y.getLsbD (i + 1) := by
    rw [← getLsbD_ayShifted_of_lt x hi, ← getLsbD_ayShifted_of_lt y hi, h]
  have feedback : ayFeedback x = ayFeedback y := by
    rw [← getLsbD_ayShifted_top, ← getLsbD_ayShifted_top, h]
  rw [ayFeedback, ayFeedback, above 2 (by decide)] at feedback
  apply BitVec.eq_of_getLsbD_eq
  intro i hi
  cases i with
  | zero => exact Bool.xor_left_inj.mp feedback
  | succ i => exact above i (by omega)

theorem ayShifted_eq_zero_iff {x : BitVec 17} : ayShifted x = 0 ↔ x = 0 := by
  have zero : ayShifted 0 = 0 := by decide
  exact ⟨fun h => ayShifted_injective (h.trans zero.symm), fun h => h ▸ zero⟩

section
variable {white : Bool} {w : Nat} {mask x : BitVec 17}

theorem snFeedback_zero : snFeedback white mask 0 = false := by
  have parity_zero : parity (0#17) = false := by decide
  cases white
  · rfl
  · rw [snFeedback, if_pos rfl]
    exact (congrArg parity BitVec.zero_and).trans parity_zero

theorem snShifted_zero : snShifted white w mask 0 = 0 := by
  rw [snShifted, snFeedback_zero]
  simp

/-- Bit 0 is fed back in periodic mode, and in white mode when the mask taps it. -/
theorem snFeedback_one (h : white = false ∨ mask.getLsbD 0 = true) :
    snFeedback white mask 1 = true := by
  cases white
  · rfl
  · have bit : mask.getLsbD 0 = true := h.resolve_left (by simp)
    have tapped : 1#17 &&& mask = 1#17 := by
      apply BitVec.eq_of_getLsbD_eq
      intro i hi
      rw [BitVec.getLsbD_and]
      cases i with
      | zero => rw [bit, Bool.and_true]
      | succ i => simp [BitVec.getLsbD_one]
    have parity_one : parity (1#17) = true := by decide
    rw [snFeedback, if_pos rfl]
    exact (congrArg parity tapped).trans parity_one

/-- The bits above bit 0 are seen in the shifted register, so only bit 0 can be set where that is 0. -/
theorem eq_one_of_snShifted_eq_zero (hw : 1 ≤ w ∧ w ≤ 17) (hx : x ≠ 0) (hwidth : x.toNat < 2 ^ w)
    (h : snShifted white w mask x = 0) : x = 1 := by
  have above (i : Nat) : x.getLsbD (i + 1) = false := by
    by_cases hi : i + 1 = w
    · exact Nat.testBit_lt_two_pow (hi ▸ hwidth)
    · rw [← getLsbD_snShifted_of_ne (white := white) (mask := mask) hw hi, h, BitVec.ofNat_eq_ofNat,
        BitVec.getLsbD_zero]
  have bit : x.getLsbD 0 = true := by
    by_contra clear
    refine hx (BitVec.eq_of_getLsbD_eq fun i _ => ?_)
    cases i with
    | zero => simpa using clear
    | succ i => simp [above]
  apply BitVec.eq_of_getLsbD_eq
  intro i hi
  cases i with
  | zero => rw [bit]; rfl
  | succ i => simp [above, BitVec.getLsbD_one]

theorem snShifted_ne_zero (hw : 1 ≤ w ∧ w ≤ 17) (hx : x ≠ 0) (hwidth : x.toNat < 2 ^ w)
    (hmode : white = false ∨ mask.getLsbD 0 = true) : snShifted white w mask x ≠ 0 := by
  intro h
  have top := getLsbD_snShifted_top (white := white) (mask := mask) hw hwidth
  rw [h, eq_one_of_snShifted_eq_zero hw hx hwidth h, snFeedback_one hmode] at top
  simp at top

theorem snShifted_lt (hw : 1 ≤ w ∧ w ≤ 17) (hwidth : x.toNat < 2 ^ w) :
    (snShifted white w mask x).toNat < 2 ^ w := by
  refine Nat.lt_pow_two_of_testBit _ fun i hi => ?_
  have high : x.toNat < 2 ^ (i + 1) := hwidth.trans_le (Nat.pow_le_pow_right (by decide) (by omega))
  have vacated : x.getLsbD (i + 1) = false := Nat.testBit_lt_two_pow high
  exact (getLsbD_snShifted_of_ne hw (by omega)).trans vacated

end

end Sys2Proof.Machine

open Sys2Proof Sys2Proof.Machine

/-- Settles O51: the shift is injective on a finite set. -/
theorem ayShiftIsInvertible : Obligations.AyShiftIsInvertible :=
  ⟨Finite.injective_iff_bijective.mp ayShifted_injective, fun _ => ayShifted_eq_zero_iff⟩

/-- Settles O52: a register that shifts to 0 had bit 0 alone, which those modes feed back. -/
theorem snZeroRegisterIsAbsorbing : Obligations.SnZeroRegisterIsAbsorbing := by
  intro W mask x white hlow hhigh
  exact ⟨snShifted_zero, rfl, fun hx hwidth => snShifted_ne_zero ⟨hlow, hhigh⟩ hx hwidth⟩
end

section
/-! PROOFS. The invariant of the state (10_state.md R43 and the rules it cites): for each family, what it
says of the family's own bank, and that every operation keeps it. -/

namespace Sys2Proof.Machine

/-! The invariant by family: the other bank stands at its reset value. -/

/-- What the invariant says of an AY chip's bank. -/
structure AyFits (m : AyModel) (a : AyBank) : Prop where
  lfsr : a.lfsr ≠ 0
  control : LatchedControl a
  attack : AttackFollows a
  level : LevelFits m a

/-- What the invariant says of an SN chip's bank. -/
structure SnFits (m : SnModel) (w : Nat) (b : SnBank) : Prop where
  lfsr : b.lfsr.toNat < 2 ^ w
  stereo : m = .sn76489 → b.stereo = 0xFF

theorem ayFits_ayReset (m : AyModel) : AyFits m ayReset where
  lfsr := by decide
  control := by decide
  attack := by decide
  level := ⟨Nat.zero_le _, fun h => nomatch h⟩

theorem snFits_snReset (m : SnModel) {w : Nat} (hw : 1 ≤ w ∧ w ≤ 17) : SnFits m w (snReset w) where
  lfsr := by
    have seed : (snReset w).lfsr.toNat = 2 ^ (w - 1) := toNat_snSeed hw.1 hw.2
    rw [seed]
    exact Nat.pow_lt_pow_right (by decide) (by omega)
  stereo _ := rfl

section
variable {s : State}

theorem inv_ay_iff {m : AyModel} (hv : s.variant = .ay m) :
    Inv s ↔ AyFits m s.ay ∧ s.sn = snReset 16 ∧ s.tapWidth = 16 ∧ s.feedbackMask = 9 ∧
      diagFits s = true := by
  constructor
  · rintro ⟨-, lfsr, control, attack, variant, diag⟩
    simp only [variantFits, hv, Bool.and_eq_true, decide_eq_true_eq] at variant
    obtain ⟨⟨⟨level, sn⟩, width⟩, mask⟩ := variant
    exact ⟨⟨lfsr, control, attack, level⟩, sn, width, mask, diag⟩
  · rintro ⟨⟨lfsr, control, attack, level⟩, sn, width, mask, diag⟩
    refine ⟨?_, lfsr, control, attack, ?_, diag⟩
    · rw [NoiseFits, sn, width, mask]
      decide
    · simp only [variantFits, hv, Bool.and_eq_true, decide_eq_true_eq]
      exact ⟨⟨⟨level, sn⟩, width⟩, mask⟩

theorem inv_sn_iff {m : SnModel} (hv : s.variant = .sn m) :
    Inv s ↔ SnFits m s.tapWidth s.sn ∧ s.ay = ayReset ∧
      (1 ≤ s.tapWidth ∧ s.tapWidth ≤ 17 ∧ s.feedbackMask.toNat < 2 ^ s.tapWidth) ∧
      diagFits s = true := by
  constructor
  · rintro ⟨⟨low, high, mask, lfsr⟩, -, -, -, variant, diag⟩
    cases m
    all_goals
      simp only [variantFits, hv, Bool.and_eq_true, decide_eq_true_eq] at variant
    case sn76489 =>
      obtain ⟨ay, stereo⟩ := variant
      exact ⟨⟨lfsr, fun _ => stereo⟩, ay, ⟨low, high, mask⟩, diag⟩
    case sn76489gg => exact ⟨⟨lfsr, fun h => nomatch h⟩, variant, ⟨low, high, mask⟩, diag⟩
  · rintro ⟨⟨lfsr, stereo⟩, ay, ⟨low, high, mask⟩, diag⟩
    obtain ⟨hlfsr, control, attack, -⟩ := ayFits_ayReset .ay8910
    refine ⟨⟨low, high, mask, lfsr⟩, ay ▸ hlfsr, ay ▸ control, ay ▸ attack, ?_, diag⟩
    cases m
    all_goals
      simp only [variantFits, hv, Bool.and_eq_true, decide_eq_true_eq]
    case sn76489 => exact ⟨ay, stereo rfl⟩
    case sn76489gg => exact ay

theorem diagFits_iff : diagFits s = true ↔ ∀ b, Diag.badAddress b ∈ s.diag → 16 ≤ b.toNat := by
  rw [diagFits, List.all_eq_true]
  constructor
  · intro h b hb
    simpa using h _ hb
  · rintro h ⟨b⟩ hb
    simpa using h b hb

end

/-! The AY bank. -/

section
variable {m : AyModel} {a : AyBank}

theorem AyFits.storeAyReg (h : AyFits m a) (n : Fin 16) (d : Byte) :
    AyFits m (storeAyReg m n d a) := by
  obtain ⟨lfsr, control, attack, level⟩ := h
  by_cases hn : n = 13
  · subst hn
    exact ⟨lfsr, ⟨rfl, rfl, rfl, rfl⟩, .inl rfl, rampStart_le_envMax _, fun h => nomatch h⟩
  · have shape : (a.regs.set n d)[13] = a.regs[13] := by
      have := getElem_set_fin a.regs n 13 d
      rwa [if_neg hn] at this
    rw [storeAyReg_of_ne hn]
    refine ⟨lfsr, ?_, attack, level⟩
    rw [LatchedControl, setAyReg_regs, shape]
    exact control

theorem AyFits.ayNoiseTick_lfsr (h : AyFits m a) : (ayNoiseTick a).lfsr ≠ 0 := by
  obtain count | ⟨boundary, flip⟩ | ⟨boundary, flip⟩ := ayNoiseTick_cases a
  · rw [ayNoiseTick_of_count count]
    exact h.lfsr
  · rw [ayNoiseTick_of_flip_up boundary flip]
    exact h.lfsr
  · rw [ayNoiseTick_of_flip_down boundary flip]
    exact mt ayShifted_eq_zero_iff.mp h.lfsr

/-- The direction, freeze flag and level are consistent with the control bits. -/
abbrev EnvFits (m : AyModel) (a : AyBank) : Prop := AttackFollows a ∧ LevelFits m a

theorem EnvFits.envTerminal (h : EnvFits m a) (hh : a.envHolding = false) (extreme : AtExtreme m a) :
    EnvFits m (envTerminal m a) := by
  obtain ⟨attack, range, -⟩ := h
  have inRange : (Machine.envTerminal m a).envLevel.toNat ≤ (envMax m).toNat :=
    envTerminal_envLevel_le_envMax range
  cases hc : a.envCont
  case false =>
    rw [envTerminal_of_not_cont hc] at inRange ⊢
    exact ⟨attack, inRange, fun _ => .inl rfl⟩
  case true =>
    cases hhold : a.envHold
    case true =>
      rw [envTerminal_of_hold hc hhold] at inRange ⊢
      refine ⟨attack, inRange, fun _ => ?_⟩
      obtain ⟨-, top⟩ | ⟨-, bottom⟩ := extreme
      · cases halt : a.envAlt <;> simp [top]
      · cases halt : a.envAlt <;> simp [bottom]
    case false =>
      cases halt : a.envAlt
      case true =>
        rw [envTerminal_of_alternate hc hhold halt] at inRange ⊢
        exact ⟨.inr ⟨hc, hhold, halt⟩, inRange, fun h => by simp [hh] at h⟩
      case false =>
        rw [envTerminal_of_restart hc hhold halt] at inRange ⊢
        exact ⟨attack, inRange, fun h => by simp [hh] at h⟩

theorem EnvFits.envLevelStep (h : EnvFits m a) (hh : a.envHolding = false) :
    EnvFits m (envLevelStep m a) := by
  by_cases extreme : AtExtreme m a
  · rw [envLevelStep_of_extreme extreme]
    exact h.envTerminal hh extreme
  · obtain ⟨attack, range, -⟩ := h
    have inRange : (Machine.envLevelStep m a).envLevel.toNat ≤ (envMax m).toNat :=
      envLevelStep_envLevel_le_envMax range
    rw [envLevelStep_of_not_extreme extreme] at inRange ⊢
    exact ⟨attack, inRange, fun h => by simp [hh] at h⟩

theorem EnvFits.envTick (h : EnvFits m a) : EnvFits m (envTick m a) := by
  rcases Nat.lt_or_ge (a.envCnt.toNat + envStep m) (envPeriod a).toNat with count | boundary
  · rw [envTick_of_count count]
    exact h
  · cases hh : a.envHolding
    case false =>
      rw [envTick_of_boundary boundary hh]
      exact EnvFits.envLevelStep (a := { a with envCnt := 0 }) h hh
    case true =>
      rw [envTick_of_boundary_holding boundary hh]
      exact h

theorem AyFits.ayTick (h : AyFits m a) : AyFits m (ayTick m a) := by
  obtain ⟨-, -, lfsr, -⟩ := ayTick_noise m a
  obtain ⟨-, level, attack, holding⟩ := ayTick_env m a
  obtain ⟨attackTick, levelTick⟩ := EnvFits.envTick (m := m) (a := a) ⟨h.attack, h.level⟩
  refine ⟨lfsr ▸ h.ayNoiseTick_lfsr, ?_, ?_, ?_⟩
  · rw [LatchedControl, ayTick_regs, ayTick_envCont, ayTick_envAtt, ayTick_envAlt, ayTick_envHold]
    exact h.control
  · rw [AttackFollows, attack, ayTick_envAtt, ayTick_envCont, ayTick_envHold, ayTick_envAlt]
    simpa only [AttackFollows, envTick_envAtt, envTick_envCont, envTick_envHold, envTick_envAlt] using
      attackTick
  · rw [LevelFits, level, holding]
    exact levelTick

theorem AyWrite.fits {i : Instr} {f : AyModel → AyBank → AyBank} {g : List Diag → List Diag}
    (h : AyWrite i f g) (ha : AyFits m a) : AyFits m (f m a) := by
  cases h with
  | address => exact ⟨ha.lfsr, ha.control, ha.attack, ha.level⟩
  | badAddress => exact ⟨ha.lfsr, ha.control, ha.attack, ha.level⟩
  | inactive => exact ha
  | data n d => exact ha.storeAyReg n d

/-- An event appended is that of a bad address, whose upper nibble is not 0. -/
theorem AyWrite.badAddress_mem {i : Instr} {f : AyModel → AyBank → AyBank}
    {g : List Diag → List Diag} (h : AyWrite i f g) {events : List Diag} {b : Byte}
    (hb : Diag.badAddress b ∈ g events) : Diag.badAddress b ∈ events ∨ 16 ≤ b.toNat := by
  cases h with
  | address => exact .inl hb
  | badAddress byte _ hbyte _ =>
    obtain old | new := List.mem_append.mp hb
    · exact .inl old
    · obtain rfl : b = byte := by simpa using new
      exact .inr hbyte
  | inactive => exact .inl hb
  | data => exact .inl hb

end

/-! The SN bank. -/

section
variable {m : SnModel} {w : Nat} {b : SnBank}

theorem SnWrite.fits {i : Instr} {f : Nat → SnBank → SnBank} (h : SnWrite i f)
    (hw : 1 ≤ w ∧ w ≤ 17) (hb : SnFits m w b) : SnFits m w (f w b) where
  lfsr := by
    obtain same | ⟨seed, -⟩ := h.lfsr_cases (w := w) (b := b)
    · rw [same]
      exact hb.lfsr
    · rw [seed]
      exact (snFits_snReset m hw).lfsr
  stereo hm := h.stereo_eq.trans (hb.stereo hm)

theorem SnFits.snTick {div : Fin 3 → BitVec 16} {mask : BitVec 17} (hw : 1 ≤ w ∧ w ≤ 17)
    (hb : SnFits m w b) : SnFits m w (snTick div w mask b) where
  lfsr := by
    rw [snTick_noise.2.1]
    rcases Nat.lt_or_ge 1 b.noiseCnt.toNat with count | reload
    · rw [snNoiseTick_of_count count]
      exact hb.lfsr
    · rw [snNoiseTick_of_reload reload]
      exact snShifted_lt hw hb.lfsr
  stereo hm := (snTick_stereo div w mask b).trans (hb.stereo hm)

end

/-! The operations. -/

theorem noiseConfigFor_legal {var : Variant} {noise : Option NoiseConfig} {c : NoiseConfig}
    (h : noiseConfigFor var noise = some c) : 1 ≤ c.width ∧ c.width ≤ 17 ∧ c.mask < 2 ^ c.width := by
  have default : 1 ≤ defaultNoiseConfig.width ∧ defaultNoiseConfig.width ≤ 17 ∧
      defaultNoiseConfig.mask < 2 ^ defaultNoiseConfig.width := by decide
  cases var with
  | ay m => cases h; exact default
  | sn m =>
    cases noise with
    | none => cases h; exact default
    | some c' =>
      obtain ⟨legal, taken⟩ := Option.ite_none_right_eq_some.mp h
      cases taken
      exact noiseConfigLegal_iff.mp legal

theorem inv_initialisedAs {var : Variant} {noise : Option NoiseConfig} {c : NoiseConfig}
    (h : noiseConfigFor var noise = some c) (waiting : List HostOp) :
    Inv (initialisedAs var c waiting) := by
  cases var with
  | ay m =>
    cases h
    exact (inv_ay_iff rfl).mpr ⟨ayFits_ayReset m, rfl, rfl, rfl, rfl⟩
  | sn m =>
    obtain ⟨low, high, mask⟩ := noiseConfigFor_legal h
    have hmask : (BitVec.ofNat 17 c.mask).toNat = c.mask :=
      toNat_ofNat_word (mask.trans_le (Nat.pow_le_pow_right (by decide) high))
    exact (inv_sn_iff rfl).mpr
      ⟨snFits_snReset m ⟨low, high⟩, rfl, ⟨low, high, hmask.trans_lt mask⟩, rfl⟩

section
variable {s t : State}

theorem AyWrite.inv {i : Instr} {f : AyModel → AyBank → AyBank} {g : List Diag → List Diag}
    (write : AyWrite i f g) {m : AyModel} (hv : s.variant = .ay m) (h : Inv s) :
    Inv { s with ay := f m s.ay, diag := g s.diag, result := none } := by
  obtain ⟨fits, sn, width, mask, diag⟩ := (inv_ay_iff hv).mp h
  refine (inv_ay_iff (by exact hv)).mpr
    ⟨write.fits fits, sn, width, mask, diagFits_iff.mpr fun b hb => ?_⟩
  exact (write.badAddress_mem hb).elim (diagFits_iff.mp diag b) id

/-- A change of an SN chip's bank that keeps the bank's part keeps the invariant. -/
theorem inv_of_snFits {m : SnModel} {b : SnBank} (hv : s.variant = .sn m) (h : Inv s)
    (hb : 1 ≤ s.tapWidth ∧ s.tapWidth ≤ 17 → SnFits m s.tapWidth s.sn → SnFits m s.tapWidth b) :
    Inv { s with sn := b, result := none } := by
  obtain ⟨fits, ay, ⟨low, high, mask⟩, diag⟩ := (inv_sn_iff hv).mp h
  exact (inv_sn_iff (by exact hv)).mpr ⟨hb ⟨low, high⟩ fits, ay, ⟨low, high, mask⟩, diag⟩

theorem exec_inv {i : Instr} (hs : Inv s) (h : exec i s = .next t) : Inv t := by
  cases class_of i with
  | ayBus write =>
    obtain ⟨-, m, hv, rfl⟩ := write.exec_eq_next.mp h
    exact write.inv hv hs
  | snBus write =>
    obtain ⟨-, ⟨m, hv⟩, rfl⟩ := write.exec_eq_next.mp h
    exact inv_of_snFits hv hs fun hw => write.fits hw
  | ggStereo =>
    obtain ⟨-, hv, rfl⟩ := execGgStereo_eq_next.mp h
    exact inv_of_snFits hv hs fun _ fits => ⟨fits.lfsr, fun h => nomatch h⟩
  | tick =>
    obtain ⟨-, ⟨m, hv, rfl⟩ | ⟨⟨m, hv⟩, rfl⟩⟩ := execTick_eq_next.mp h
    · obtain ⟨fits, sn, width, mask, diag⟩ := (inv_ay_iff hv).mp hs
      exact (inv_ay_iff (by exact hv)).mpr ⟨fits.ayTick, sn, width, mask, diag⟩
    · exact inv_of_snFits hv hs fun hw fits => fits.snTick hw
  | getSamples =>
    obtain ⟨-, rfl⟩ := execGetSamples_eq_next.mp h
    exact hs
  | init v noise =>
    obtain ⟨var, c, -, hc, rfl⟩ := exec_init_eq_next.mp h
    exact inv_initialisedAs hc s.pending
  | getClockDivisor =>
    obtain ⟨-, rfl⟩ := execGetClockDivisor_eq_next.mp h
    exact hs
  | getSampleRate =>
    obtain ⟨-, rfl⟩ := execGetSampleRate_eq_next.mp h
    exact hs

end

/-! The word of an `INIT` is taken as it is: only the bus formats have context bits. -/

theorem formWord_kind (s : State) (w : Word) : (formWord s w).toNat / 2 ^ 14 = w.toNat / 2 ^ 14 := by
  obtain hk | hk | hk : w.toNat / 2 ^ 14 = 0 ∨ w.toNat / 2 ^ 14 = 1 ∨ 2 ≤ w.toNat / 2 ^ 14 := by
    omega
  · have port := (flag w 13).toNat_le
    have active := s.ay.active.toNat_le
    have addr := s.ay.addr.isLt
    have byte := (field w 0 8).isLt
    rw [formWord_of_kind_ayBus hk, toNat_ofNat_word (by rw [ayBusNat]; omega), ayBusNat]
    omega
  · have channel := s.sn.latchCh.isLt
    have volume := s.sn.latchVol.toNat_le
    have spare := (field w 11 3).isLt
    have byte := (field w 0 8).isLt
    rw [formWord_of_kind_snBus hk, toNat_ofNat_word (by rw [snBusNat]; omega), snBusNat]
    omega
  · rw [formWord_of_kind_ge hk]

theorem kind_of_decode_init {w : Word} {b : Beside} {v : BitVec 4} {noise : Option NoiseConfig}
    (h : decode w b = .ok (.init v noise)) : 2 ≤ w.toNat / 2 ^ 14 := by
  by_contra hk
  obtain hk | hk : w.toNat / 2 ^ 14 = 0 ∨ w.toNat / 2 ^ 14 = 1 := by omega
  · rw [decode_of_kind_ayBus hk, Except.ok.injEq] at h
    have row := rowIndex_decodeAyBus_lt w
    rw [h] at row
    exact absurd row (by simp [Instr.rowIndex])
  · rw [decode_of_kind_snBus hk, decodeSnBus_eq, guarded_eq_ok_iff] at h
    have row := (rowIndex_snByteOf_bounds (field w 9 2) (flag w 8) (field w 0 8)).2
    rw [h.2] at row
    exact absurd row (by simp [Instr.rowIndex])

theorem decode_init_of_formWord {s : State} {w : Word} {b : Beside} {v : BitVec 4}
    {noise : Option NoiseConfig} (h : decode (formWord s w) b = .ok (.init v noise)) :
    decode w b = .ok (.init v noise) := by
  have kind := kind_of_decode_init h
  rw [formWord_kind] at kind
  rwa [formWord_of_kind_ge kind] at h

/-- A call that completes before the first `INIT` is an `INIT`. -/
theorem runCall_before_init {op : HostOp} {s t : State} (hs : s.initialised = false)
    (h : runCall op s = .next t) :
    t.initialised = true ∧ ∃ v noise, decode op.word op.beside = .ok (.init v noise) := by
  cases hd : decode (formWord s op.word) op.beside with
  | ok i =>
    rw [runCall_of_decode hd] at h
    by_cases hi : i.isInit
    · obtain ⟨v, noise, rfl⟩ := exists_init_of_isInit hi
      obtain ⟨var, c, -, -, rfl⟩ := exec_init_eq_next.mp h
      exact ⟨rfl, v, noise, decode_init_of_formWord hd⟩
    · rw [exec_refuses_before_init hs hi] at h
      cases h
  | error e =>
    rw [runCall_of_reserved hd] at h
    cases h

end Sys2Proof.Machine

open Sys2Proof Sys2Proof.Machine

/-- Settles O45: taking a call and every operation keep the invariant. -/
theorem everyStepKeepsTheInvariant : Obligations.EveryStepKeepsTheInvariant := by
  intro s t hs h
  obtain hp | ⟨op, rest, hp⟩ : s.pending = [] ∨ ∃ op rest, s.pending = op :: rest := by
    cases s.pending <;> simp
  · rw [step_of_idle hp] at h
    cases h
    exact hs
  · rw [step_of_pending hp] at h
    cases hd : decode (formWord { s with pending := rest } op.word) op.beside with
    | ok i =>
      rw [runCall_of_decode hd] at h
      exact exec_inv (s := { s with pending := rest }) hs h
    | error e =>
      rw [runCall_of_reserved hd] at h
      cases h

/-- Settles O46: before `INIT` every other operation is refused, and the word of an `INIT` is taken as it
is. -/
theorem resetIsSoundAndAwaitsInit : Obligations.ResetIsSoundAndAwaitsInit := by
  refine ⟨(inv_ay_iff rfl).mpr ⟨ayFits_ayReset _, rfl, rfl, rfl, rfl⟩, rfl, rfl, rfl, fun w t h => ?_⟩
  rw [step_of_pending rfl] at h
  exact runCall_before_init rfl h
end

section
/-! PROOFS. The contract of the host calls decides whether a run is refused (46_host_ops.md R162,
60_exceptions.md R166, R167). -/

namespace Sys2Proof.Machine

/-! What each call decodes to, in any state. -/

section
variable (s : State)

theorem decode_ggst (byte : Byte) :
    decode (formWord s (HostCall.ggst byte).toOp.word) (HostCall.ggst byte).toOp.beside =
      .ok (.ggStereo byte) := by
  have hbyte := byte.isLt
  have hword : (HostCall.ggst byte).toOp.word.toNat = 0x8000 + byte.toNat :=
    toNat_ofNat_word (by omega)
  rw [formWord_of_kind_ge (by omega), decode_of_kind_stereo (by omega), if_pos (by omega),
    (field_eq_iff _ 0 8 byte).mpr (by omega)]

theorem decode_init (v : BitVec 4) (noise : Option NoiseConfig) :
    decode (formWord s (HostCall.init v noise).toOp.word) (HostCall.init v noise).toOp.beside =
      .ok (.init v noise) := by
  have hv := v.isLt
  have hword : (HostCall.init v noise).toOp.word.toNat = 0x14000 + v.toNat :=
    toNat_ofNat_word (by omega)
  rw [formWord_of_kind_ge (by omega), decode_of_kind_init (by omega), if_pos (by omega),
    (field_eq_iff _ 0 4 v).mpr (by omega)]
  rfl

theorem decode_tick :
    decode (formWord s HostCall.tick.toOp.word) HostCall.tick.toOp.beside = .ok .tick := by
  rw [formWord_of_kind_ge (by decide)]
  rfl

theorem decode_sample :
    decode (formWord s HostCall.sample.toOp.word) HostCall.sample.toOp.beside = .ok .getSamples := by
  rw [formWord_of_kind_ge (by decide)]
  rfl

theorem decode_clkdiv :
    decode (formWord s HostCall.clkdiv.toOp.word) HostCall.clkdiv.toOp.beside =
      .ok .getClockDivisor := by
  rw [formWord_of_kind_ge (by decide)]
  rfl

theorem decode_rate (hz : Nat) :
    decode (formWord s (HostCall.rate hz).toOp.word) (HostCall.rate hz).toOp.beside =
      .ok (.getSampleRate hz) := by
  have hword : (HostCall.rate hz).toOp.word = 0x1C000 := rfl
  rw [hword, formWord_of_kind_ge (by decide),
    decode_of_kind_host (.inr (.inr (.inr ⟨by decide, rfl⟩))), if_pos (by decide)]
  rfl

end

/-! The chip of a state. -/

section
variable {s t : State}

theorem chip_eq_none (h : s.initialised = false) : s.chip = none := by
  simp [State.chip, h]

theorem chip_eq_some (h : s.initialised = true) : s.chip = some s.variant := by
  simp [State.chip, h]

/-- The answer to a call is the one the contract gives: completion with the chip it names and the
waiting calls kept, or a refusal. -/
def Agrees (s : State) (answer : Answer) : Option (Option Variant) → Prop
  | some chip => ∃ t, answer = .next t ∧ t.chip = chip ∧ t.pending = s.pending
  | none => ∃ r, answer = .refused r

/-- An operation that completes on an initialised chip keeps the chip, unless it is `INIT`. -/
theorem agrees_of_next {i : Instr} {v : Variant} (hv : s.variant = v) (h : exec i s = .next t)
    (hi : ¬ i.isInit) : Agrees s (exec i s) (some (some v)) := by
  obtain ⟨hs, ⟨m, -, ht⟩ | ⟨m, -, ht⟩⟩ := exec_frame h hi
  all_goals
    refine ⟨t, h, ?_, by rw [ht]⟩
    rw [ht, ← hv]
    exact chip_eq_some hs

/-- Before the first `INIT` every other operation is refused, so only an initialised chip is left. -/
theorem agrees_of_initialised {i : Instr} {c : HostCall} (hi : ¬ i.isInit)
    (hnone : allowedCall none c = none)
    (h : s.initialised = true → Agrees s (exec i s) (allowedCall (some s.variant) c)) :
    Agrees s (exec i s) (allowedCall s.chip c) := by
  cases hs : s.initialised
  · rw [chip_eq_none hs, hnone]
    exact ⟨_, exec_refuses_before_init hs hi⟩
  · rw [chip_eq_some hs]
    exact h hs

theorem agrees_ayBus {i : Instr} {c : HostCall} (hi : i.isAyBus) (hnone : allowedCall none c = none)
    (hay : ∀ m, allowedCall (some (.ay m)) c = some (some (.ay m)))
    (hsn : ∀ m, allowedCall (some (.sn m)) c = none) :
    Agrees s (exec i s) (allowedCall s.chip c) := by
  have notInit : ¬ i.isInit := by rw [Instr.isInit]; omega
  refine agrees_of_initialised notInit hnone fun hs => ?_
  obtain ⟨f, g, write⟩ := exists_ayWrite hi
  obtain ⟨m, hv⟩ | ⟨m, hv⟩ := variant_cases s
  · rw [hv, hay]
    exact agrees_of_next hv (write.exec_eq_next.mpr ⟨hs, m, hv, rfl⟩) notInit
  · rw [hv, hsn]
    exact ⟨_, by rw [write.exec_eq, whenAy_refuses_sn hs hv]⟩

theorem agrees_snBus {i : Instr} {c : HostCall} (hi : i.isSnBus) (hnone : allowedCall none c = none)
    (hay : ∀ m, allowedCall (some (.ay m)) c = none)
    (hsn : ∀ m, allowedCall (some (.sn m)) c = some (some (.sn m))) :
    Agrees s (exec i s) (allowedCall s.chip c) := by
  have notInit : ¬ i.isInit := by rw [Instr.isInit]; omega
  refine agrees_of_initialised notInit hnone fun hs => ?_
  obtain ⟨f, write⟩ := exists_snWrite hi
  obtain ⟨m, hv⟩ | ⟨m, hv⟩ := variant_cases s
  · rw [hv, hay]
    exact ⟨_, by rw [write.exec_eq, whenSn_refuses_ay hs hv]⟩
  · rw [hv, hsn]
    exact agrees_of_next hv (write.exec_eq_next.mpr ⟨hs, ⟨m, hv⟩, rfl⟩) notInit

/-- An operation that runs on every initialised chip. -/
theorem agrees_always {i : Instr} {c : HostCall} (hi : ¬ i.isInit) (hnone : allowedCall none c = none)
    (hsome : ∀ v, allowedCall (some v) c = some (some v))
    (h : s.initialised = true → ∃ t, exec i s = .next t) :
    Agrees s (exec i s) (allowedCall s.chip c) := by
  refine agrees_of_initialised hi hnone fun hs => ?_
  obtain ⟨t, ht⟩ := h hs
  rw [hsome]
  exact agrees_of_next rfl ht hi

theorem exec_tick_completes (hs : s.initialised = true) : ∃ t, exec .tick s = .next t := by
  obtain ⟨m, hv⟩ | ⟨m, hv⟩ := variant_cases s
  · exact ⟨_, exec_tick_ay hs hv⟩
  · exact ⟨_, exec_tick_sn hs hv⟩

theorem agrees_init (v : BitVec 4) (noise : Option NoiseConfig) (chip : Option Variant) :
    Agrees s (exec (.init v noise) s) (allowedCall chip (.init v noise)) := by
  cases hvar : variantOfCode v with
  | none =>
    have refused : allowedCall chip (.init v noise) = none := by simp only [allowedCall, hvar]
    rw [refused]
    exact ⟨_, execInit_of_no_variant s hvar⟩
  | some var =>
    have allowed :
        allowedCall chip (.init v noise) = (noiseConfigFor var noise).map fun _ => some var := by
      simp only [allowedCall, hvar]
    rw [allowed]
    cases hc : noiseConfigFor var noise with
    | none => exact ⟨_, execInit_of_no_config s hvar hc⟩
    | some c => exact ⟨_, execInit_of_config s hvar hc, rfl, rfl⟩

theorem allowedCall_ggst_of_ne {v : Variant} (hv : v ≠ .sn .sn76489gg) (byte : Byte) :
    allowedCall (some v) (.ggst byte) = none := by
  rcases v with m | m
  case ay => rfl
  case sn =>
    cases m
    case sn76489 => rfl
    case sn76489gg => exact absurd rfl hv

theorem agrees_ggStereo (byte : Byte) :
    Agrees s (exec (.ggStereo byte) s) (allowedCall s.chip (.ggst byte)) := by
  have notInit : ¬ (Instr.ggStereo byte).isInit := by simp [Instr.isInit, Instr.rowIndex]
  refine agrees_of_initialised notInit rfl fun hs => ?_
  by_cases hv : s.variant = .sn .sn76489gg
  · rw [hv]
    exact agrees_of_next hv (execGgStereo_eq_next.mpr ⟨hs, hv, rfl⟩) notInit
  · rw [allowedCall_ggst_of_ne hv]
    exact ⟨_, execGgStereo_refuses hs hv byte⟩

theorem rowIndex_ayDataByteOf_lt (act : Bool) (lat : BitVec 4) (byte : Byte) :
    (ayDataByteOf act lat byte).rowIndex < 22 := by
  have := lat.isLt
  rw [rowIndex_ayDataByteOf]
  split_ifs <;> omega

theorem rowIndex_ayAddressOf_lt (act : Bool) (lat : BitVec 4) (byte : Byte) :
    (ayAddressOf act lat byte).rowIndex < 22 := by
  rw [rowIndex_ayAddressOf]
  split_ifs <;> omega

/-- Every call decodes, to an operation whose answer is the one the contract gives. -/
theorem agrees_runCall (c : HostCall) (s : State) :
    Agrees s (runCall c.toOp s) (allowedCall s.chip c) := by
  cases c with
  | aya byte =>
    rw [runCall_of_decode (decode_aya s byte _)]
    exact agrees_ayBus (rowIndex_ayAddressOf_lt _ _ _) rfl (fun _ => rfl) fun _ => rfl
  | ayd byte =>
    rw [runCall_of_decode (decode_ayd s byte _)]
    exact agrees_ayBus (rowIndex_ayDataByteOf_lt _ _ _) rfl (fun _ => rfl) fun _ => rfl
  | snw byte =>
    rw [runCall_of_decode (decode_snw s byte _)]
    exact agrees_snBus (rowIndex_snByteOf_bounds _ _ _) rfl (fun _ => rfl) fun _ => rfl
  | ggst byte =>
    rw [runCall_of_decode (decode_ggst s byte)]
    exact agrees_ggStereo byte
  | tick =>
    rw [runCall_of_decode (decode_tick s)]
    exact agrees_always (by decide) rfl (fun _ => rfl) exec_tick_completes
  | sample =>
    rw [runCall_of_decode (decode_sample s)]
    exact agrees_always (by decide) rfl (fun _ => rfl)
      fun hs => ⟨_, execGetSamples_eq_next.mpr ⟨hs, rfl⟩⟩
  | init v noise =>
    rw [runCall_of_decode (decode_init s v noise)]
    exact agrees_init v noise s.chip
  | clkdiv =>
    rw [runCall_of_decode (decode_clkdiv s)]
    exact agrees_always (by decide) rfl (fun _ => rfl)
      fun hs => ⟨_, execGetClockDivisor_eq_next.mpr ⟨hs, rfl⟩⟩
  | rate hz =>
    rw [runCall_of_decode (decode_rate s hz)]
    exact agrees_always (by simp [Instr.isInit, Instr.rowIndex]) rfl (fun _ => rfl)
      fun hs => ⟨_, execGetSampleRate_eq_next.mpr ⟨hs, rfl⟩⟩

/-- A run from waiting calls goes as its first call answers. -/
theorem step_withCalls (s : State) (c : HostCall) (calls : List HostCall) :
    step (s.withCalls (c :: calls)) = runCall c.toOp (s.withCalls calls) :=
  step_of_pending rfl

theorem withCalls_self {t : State} {calls : List HostCall} (h : t.pending = calls.map HostCall.toOp) :
    t.withCalls calls = t := by
  rw [State.withCalls, ← h]

/-- The two halves of the contract as one statement, by the calls that are left. -/
theorem run_withCalls (s : State) (calls : List HostCall) :
    if keepsContract s.chip calls then
      ∃ t, Host.Core.run core calls.length (s.withCalls calls) = .next t ∧ t.pending = []
    else ∃ r, Host.Core.run core calls.length (s.withCalls calls) = .refused r := by
  induction calls generalizing s with
  | nil => exact ⟨s.withCalls [], rfl, rfl⟩
  | cons c calls ih =>
    have answer := agrees_runCall c (s.withCalls calls)
    rw [← step_withCalls] at answer
    change Agrees _ _ (allowedCall s.chip c) at answer
    rw [List.length_cons]
    cases allowed : allowedCall s.chip c with
    | none =>
      rw [allowed] at answer
      obtain ⟨r, refused⟩ := answer
      simp only [keepsContract, allowed, Bool.false_eq_true, if_false]
      exact ⟨r, run_succ_of_refused refused⟩
    | some chip =>
      rw [allowed] at answer
      obtain ⟨t, next, rfl, waiting⟩ := answer
      simp only [keepsContract, allowed, run_succ_of_next next]
      rw [← withCalls_self (t := t) waiting]
      exact ih t

end

end Sys2Proof.Machine

open Sys2Proof Sys2Proof.Machine

/-- Settles O56, by induction on the calls. -/
theorem contractDecidesWhetherARunIsRefused : Obligations.ContractDecidesWhetherARunIsRefused := by
  intro s calls
  have run := run_withCalls s calls
  exact ⟨fun h => by rwa [if_pos h] at run, fun h => by rwa [if_neg (by simp [h])] at run⟩
end
